-- ==== Sys2Proof/Word.lean ====
section
/-! DEFINITION. The two data widths of the block (00_scope.md R10). -/

namespace Sys2Proof

/-- A byte: 8 bits, a residue mod 256 (R9, R10). -/
abbrev Byte := BitVec 8

/-- A word: 32 bits; register values, command words and byte addresses (R9, R10). -/
abbrev Word := BitVec 32

end Sys2Proof
end

