-- ==== Sys2Proof/Config.lean ====
section
/-! DEFINITION. What this hardware fixes (00_scope.md R9), and the source of its free values.
The OPEN parameters of R9 are plain data of the state (`Machine.Platform`), so that every statement
about every state speaks of every platform (log entry 3). -/

namespace Sys2Proof.Config

/-- `ID_VALUE`, the constant the ID register reads as (R9, R24). -/
abbrev idValue : Word := 0x41464254#32

/-- The modulus `M` (R9; 90_conflicts.md C1). -/
abbrev modulus : Nat := 256

/-- The size of the register window in bytes (R9, R22). -/
abbrev windowBytes : Nat := 64

/-- The number of byte addresses the engine can present: `[0, 2^32)` (R9 `ADDR_WIDTH`, R60). -/
abbrev addressSpace : Nat := 0x100000000

/-- What a byte of host memory that nothing has written reads as: "Host memory not listed in a start
state holds `00`" (95_test_vectors.md, conventions). DESIGN CHOICE, unsafe (log entry 6). -/
abbrev unlistedByte : Byte := 0#8

/-- The draws of the spec: the `n`-th unspecified byte of a run (93_implementation_defined.md U1 to U4,
and the stale bytes of 70_reset_and_hazards.md R244). It has no body, so nothing can be proved of a
value of it (log entry 5). -/
opaque freeByte : Nat → Byte

end Sys2Proof.Config
end

