-- ==== Sys2Proof/Syntax.lean ====
section
/-! DEFINITION. The command set (30_encoding.md R90 to R93), the fields of a command word, the names of
the registers (10_state.md R22) and the driver-level lines of R98 and R99. -/

namespace Sys2Proof

/-- The seven commands, one constructor per row of spec/opcode_table.json (R93). Their operands are the
unsigned 8-bit fields F1 and F2 (R92), so every term of this type is well formed by its type. -/
inductive Instr where
  | nop
  | cfg (a b : Byte)
  | encb (x : Byte)
  | decb (y : Byte)
  | encbuf
  | decbuf
  | clr
  deriving DecidableEq, Repr

/-- The five fields of the one format `CW` (R90). -/
structure CmdFields where
  op : BitVec 4
  z1 : BitVec 4
  f1 : Byte
  f2 : Byte
  z2 : Byte
  deriving DecidableEq, Repr

/-- What a command word is: a command of R93, or the single term `Invalid` (R97). -/
inductive Decoded where
  | command (i : Instr)
  | invalid
  deriving DecidableEq, Repr

/-- The registers of the window (R22). -/
inductive Reg where
  | id | ctrl | status | cmd | result | src | dst | len | count
  deriving DecidableEq, Repr

/-- One line of the driver-level notation: the syntax of R98 and the pseudo-instructions of R99. The
operands of CFG, ENCB and DECB are whatever the writer wrote; the assembler checks them. -/
inductive Asm where
  | wr (r : Reg) (v : Word)
  | rd (r : Reg)
  | nop
  | cfg (a b : Int)
  | encb (x : Int)
  | decb (y : Int)
  | encbuf
  | decbuf
  | clr
  | cfgi (a b : Int)
  | wait
  | enc (src dst len : Word)
  | dec (src dst len : Word)
  | ack
  deriving DecidableEq, Repr

end Sys2Proof
end

