-- ==== Sys2Proof/WellFormed.lean ====
section
/-! DEFINITION. Which command words are valid (30_encoding.md R92, R94) and which driver lines an
assembler accepts (R98). A term of `Instr` is well formed by its type. -/

namespace Sys2Proof

/-- The operand fields an opcode leaves unused, which R92 says must be 0. -/
def CmdFields.unusedZero (f : CmdFields) : Bool :=
  if f.op = 0x1#4 then true
  else if f.op = 0x2#4 || f.op = 0x3#4 then f.f2 = 0#8
  else f.f1 = 0#8 && f.f2 = 0#8

/-- A word is valid when its opcode is not reserved, Z1 and Z2 are 0, and every unused field is 0 (R94). -/
def CmdFields.wellFormed (f : CmdFields) : Bool :=
  f.op.toNat < 7 && f.z1 = 0#4 && f.z2 = 0#8 && f.unusedZero

/-- An operand the assembler accepts for CFG, ENCB and DECB: `[0, 255]` (R98). -/
def byteOperand (v : Int) : Bool := 0 ≤ v && v ≤ 255

/-- "An assembler refuses a `CFG`, `ENCB` or `DECB` operand outside `[0, 255]`" (R98); `CFGI` takes any
integer (R99). -/
def Asm.wellFormed : Asm → Bool
  | .cfg a b => byteOperand a && byteOperand b
  | .encb x => byteOperand x
  | .decb y => byteOperand y
  | .wr _ _ | .rd _ | .nop | .encbuf | .decbuf | .clr | .cfgi _ _ | .wait
  | .enc _ _ _ | .dec _ _ _ | .ack => true

end Sys2Proof
end

