-- ==== Sys2Proof/Decode.lean ====
section
/-! DEFINITION. From a command word to a command and back (30_encoding.md R90 to R97). -/

namespace Sys2Proof

/-- The fields of a command word (R90). -/
def fieldsOf (w : Word) : CmdFields where
  op := w.extractLsb' 0 4
  z1 := w.extractLsb' 4 4
  f1 := w.extractLsb' 8 8
  f2 := w.extractLsb' 16 8
  z2 := w.extractLsb' 24 8

/-- The word whose fields these are (R90). -/
def wordOf (f : CmdFields) : Word := f.z2 ++ f.f2 ++ f.f1 ++ f.z1 ++ f.op

/-- The decode order of R95: reserved fields first, then the opcode and its unused fields. Total, and
the one refusal has a name (R97). -/
def decodeFields (f : CmdFields) : Decoded :=
  if f.z1 ≠ 0#4 ∨ f.z2 ≠ 0#8 then .invalid
  else if f.op = 0x0#4 then
    if f.f1 ≠ 0#8 ∨ f.f2 ≠ 0#8 then .invalid else .command .nop
  else if f.op = 0x1#4 then .command (.cfg f.f1 f.f2)
  else if f.op = 0x2#4 then
    if f.f2 ≠ 0#8 then .invalid else .command (.encb f.f1)
  else if f.op = 0x3#4 then
    if f.f2 ≠ 0#8 then .invalid else .command (.decb f.f1)
  else if f.op = 0x4#4 then
    if f.f1 ≠ 0#8 ∨ f.f2 ≠ 0#8 then .invalid else .command .encbuf
  else if f.op = 0x5#4 then
    if f.f1 ≠ 0#8 ∨ f.f2 ≠ 0#8 then .invalid else .command .decbuf
  else if f.op = 0x6#4 then
    if f.f1 ≠ 0#8 ∨ f.f2 ≠ 0#8 then .invalid else .command .clr
  else .invalid

/-- What the 32-bit value written to CMD means (R97). -/
def decode (w : Word) : Decoded := decodeFields (fieldsOf w)

/-- The fields of a command's word (R92, R93). -/
def encodeFields : Instr → CmdFields
  | .nop => ⟨0x0#4, 0#4, 0#8, 0#8, 0#8⟩
  | .cfg a b => ⟨0x1#4, 0#4, a, b, 0#8⟩
  | .encb x => ⟨0x2#4, 0#4, x, 0#8, 0#8⟩
  | .decb y => ⟨0x3#4, 0#4, y, 0#8, 0#8⟩
  | .encbuf => ⟨0x4#4, 0#4, 0#8, 0#8, 0#8⟩
  | .decbuf => ⟨0x5#4, 0#4, 0#8, 0#8, 0#8⟩
  | .clr => ⟨0x6#4, 0#4, 0#8, 0#8, 0#8⟩

/-- The word that issues a command (R92, R93, R98). -/
def encode (i : Instr) : Word := wordOf (encodeFields i)

/-- A row of the opcode map of R93: `w` is the row's command exactly when `w AND mask = match`. -/
def rowMatches (i : Instr) (w : Word) : Bool :=
  match i with
  | .nop => w &&& 0xFFFFFFFF#32 = 0x00000000#32
  | .cfg _ _ => w &&& 0xFF0000FF#32 = 0x00000001#32
  | .encb _ => w &&& 0xFFFF00FF#32 = 0x00000002#32
  | .decb _ => w &&& 0xFFFF00FF#32 = 0x00000003#32
  | .encbuf => w &&& 0xFFFFFFFF#32 = 0x00000004#32
  | .decbuf => w &&& 0xFFFFFFFF#32 = 0x00000005#32
  | .clr => w &&& 0xFFFFFFFF#32 = 0x00000006#32

/-- The command a table word of `nbits` bits stands for; a command is one 32-bit word (R91), so every
bit above `nbits` is 0. -/
def decodeTableWord (nbits w : Nat) : Option Instr :=
  match decode ((BitVec.ofNat nbits w).setWidth 32) with
  | .command i => some i
  | .invalid => none

end Sys2Proof
end

