-- ==== Sys2Proof/Machine/State.lean ====
section
/-! DEFINITION. The state of the block and of what it is connected to, as plain data (10_state.md R20 to
R46; 20_memory.md R60), and its value after reset (R46). -/

namespace Sys2Proof.Machine

/-- The outcome codes of STATUS.ERRCODE (60_exceptions.md R200). Codes 7 to 15 are never produced and
have no constructor (93_implementation_defined.md U14). -/
inductive ErrCode where
  | none
  | invalidParameters
  | notConfigured
  | invalidCommand
  | invalidRange
  | busErrorRead
  | busErrorWrite
  deriving DecidableEq, Repr

/-- `eng.OP`, the direction of the running buffer command (R43). -/
inductive EngOp where
  | enc
  | dec
  deriving DecidableEq, Repr

/-- The kind of an engine access (00_scope.md R9, `MEM_OK(addr, kind)`). -/
inductive AccessKind where
  | read
  | write
  deriving DecidableEq, Repr

/-- How the platform answers an engine access: it completes, it gets a bus error (20_memory.md R61), or
it is never answered (42_buffer_transform.md R181). -/
inductive Answer where
  | ok
  | busError
  | silent
  deriving DecidableEq, Repr

/-- The width of a host access to the register window (R23). -/
inductive AccessWidth where
  | w8
  | w16
  | w32
  | w64
  deriving DecidableEq, Repr

/-- The affine configuration `cfg` (R40). -/
structure Cfg where
  a : Byte
  b : Byte
  ainv : Byte
  valid : Bool
  deriving DecidableEq, Repr

/-- No configuration: every field 0 (R40, R42). -/
def Cfg.cleared : Cfg := ⟨0#8, 0#8, 0#8, false⟩

/-- An address region in which the platform gives engine accesses of one kind one answer. A list of
them stands for the OPEN predicate `MEM_OK` of R9 and for the blocking parameter of R181. -/
structure Region where
  base : Nat
  size : Nat
  kind : AccessKind
  answer : Answer
  deriving DecidableEq, Repr

/-- The OPEN parameters (00_scope.md R9; 92_eei_decisions.md D4, D20, D25, D37). No step changes them.
`REG_BASE` is `64 * windowIndex`, a multiple of 64; `NUM_HOSTS` is `extraHosts + 1`, at least 1. The
first region that holds an address decides; an address in no region answers `ok` (log entry 3). -/
structure Platform where
  windowIndex : Nat
  extraHosts : Nat
  hostCoherent : Bool
  regions : List Region
  deriving DecidableEq, Repr

/-- One engine access that the platform answered, as the host bus sees it (20_memory.md R66, R67). -/
structure BusAccess where
  kind : AccessKind
  addr : Word
  deriving DecidableEq, Repr

/-- What a host gets back from an access (60_exceptions.md R215). -/
inductive Reply where
  | ok
  | word (v : Word)
  | byte (v : Byte)
  | busError
  deriving DecidableEq, Repr

/-- One atomic step of an agent (00_scope.md R14): a host's access to the window, a host's own access to
a byte of memory, a byte step of the engine, or reset. `host` numbers the bus master; `cached` says that
the access goes through a cache of the host (20_memory.md R78). A host number is not checked against
`NUM_HOSTS` (log entry 14). -/
inductive Event where
  | regRead (host : Nat) (width : AccessWidth) (offset : BitVec 6)
  | regWrite (host : Nat) (width : AccessWidth) (offset : BitVec 6) (value : Word)
  | memRead (host : Nat) (cached : Bool) (addr : Word)
  | memWrite (host : Nat) (cached : Bool) (addr : Word) (value : Byte)
  | engine
  | reset
  deriving DecidableEq, Repr

/-- Host memory as address and byte pairs: addresses strictly rising, no entry equal to what an unlisted
address reads as (`Memory.wf`). -/
abbrev Memory := List Host.Cell

/-- The state. The fields down to `mem` are the spec's; the rest are the model's own.
CMD has no storage (R33), and ID, STATUS.CONFIGURED, STATUS.ERR and `irq` are computed (R24, R28, R30, R44). -/
structure State where
  /-- CTRL.IE (R25). -/
  ie : Bool
  /-- STATUS.BUSY (R27). -/
  busy : Bool
  /-- STATUS.DONE (R29). -/
  done : Bool
  /-- STATUS.OVR (R31). -/
  ovr : Bool
  /-- STATUS.ERRCODE (R32). -/
  errcode : ErrCode
  /-- RESULT.BYTE (R34). -/
  result : Byte
  /-- SRC (R35). -/
  src : Word
  /-- DST (R36). -/
  dst : Word
  /-- LEN (R37). -/
  len : Word
  /-- COUNT (R38). -/
  count : Word
  /-- The hidden configuration (R40). -/
  cfg : Cfg
  /-- `eng.OP` (R43). -/
  engOp : EngOp
  /-- Host memory, reached by the engine and the hosts (R45, R60). -/
  mem : Memory
  /-- Destination bytes that a host write has raced for, without repeats; each is a draw at the
  command's end (20_memory.md R73; log entry 11). -/
  tainted : List Word
  /-- How many free values the run has used; the next is `Config.freeByte draws`. -/
  draws : Nat
  /-- The engine accesses performed so far, newest first (R66, R67; log entry 12). -/
  busLog : List BusAccess
  /-- The OPEN parameters. -/
  plat : Platform
  /-- What the agents do next, first event first (R14); when it is empty only the engine runs (log entry 1). -/
  schedule : List Event
  /-- The host of the last host access, and what it got back (R215; log entry 12). -/
  reply : Option (Nat × Reply)
  deriving DecidableEq, Repr

/-- No behaviour of the block stops the machine: an error ends a command and is reported in STATUS
(60_exceptions.md R202, R206), and a bad register access is answered with a bus error (R23). So there is
no fault. -/
inductive Fault where
  deriving DecidableEq, Repr

/-- Why a step has no meaning. -/
inductive Refusal where
  /-- Raised by an arm of `exec` that has no meaning yet. No arm raises it. Safe: the run stops. -/
  | notModelled (mnemonic : String)
  /-- Raised by ENCBUF and DECBUF when the engine would start on a range that meets the block's own
  register window: "unpredictable; a model refuses a buffer command whose source or destination range
  meets `[REG_BASE, REG_BASE + 64)`" (20_memory.md R68). Safe: the run stops. -/
  | rangeInWindow
  deriving DecidableEq, Repr

/-- The platform that `State.reset` carries (log entry 4). DESIGN CHOICE: the spec leaves every one of
these OPEN. -/
def Platform.atReset : Platform := ⟨0x1000000, 0, true, []⟩

/-- The machine right after reset (R46). `eng.OP` is unspecified there (log entry 7). Memory lists
nothing, no free value is used, and no agent has anything to do. -/
def State.reset : State where
  ie := false
  busy := false
  done := false
  ovr := false
  errcode := .none
  result := 0#8
  src := 0#32
  dst := 0#32
  len := 0#32
  count := 0#32
  cfg := Cfg.cleared
  engOp := .enc
  mem := []
  tainted := []
  draws := 0
  busLog := []
  plat := Platform.atReset
  schedule := []
  reply := none

end Sys2Proof.Machine
end

