-- ==== Sys2Proof/Machine/Affine.lean ====
section
/-! DEFINITION. The pure functions of the source's contract: the validity of a multiplier, its inverse,
`E`, `D` and their application across a buffer (40_configuration.md R111 to R113; 41_byte_transform.md
R140 to R146; 42_buffer_transform.md R170). -/

namespace Sys2Proof.Machine

/-- `valid(a)`: the multiplier is odd (R111). -/
def validMultiplier (a : Byte) : Bool := a.toNat % 2 = 1

/-- One round of R112's closed form: `t * (2 - a*t)`, all products taken mod 256. -/
def inverseRound (a t : Byte) : Byte := t * (2#8 - a * t)

/-- `inv(a)` by the closed form of R112 (DEDUCED, log entry 16). -/
def inverse (a : Byte) : Byte := inverseRound a (inverseRound a a)

/-- The loop of the extended Euclidean algorithm that R112 gives as a reference, with a bound on its
rounds: `r0, r1, s0, s1` as there. -/
def euclidLoop : Nat → Int → Int → Int → Int → Int
  | 0, _, _, s0, _ => s0
  | n + 1, r0, r1, s0, s1 =>
    if r1 = 0 then s0
    else euclidLoop n r1 (r0 - r0 / r1 * r1) s1 (s0 - r0 / r1 * s1)

/-- `ext_euclid_inv(a)` (R112). Sixteen rounds are enough below 256: the remainders fall at least as fast
as the Fibonacci numbers. -/
def euclidInverse (a : Byte) : Byte := BitVec.ofInt 8 (euclidLoop 16 256 a.toNat 0 1 % 256)

/-- `E(x) = (cfg.A * x + cfg.B) mod 256`, exact and then narrowed (R140). -/
def Cfg.encryptByte (c : Cfg) (x : Byte) : Byte :=
  BitVec.ofNat 8 ((c.a.toNat * x.toNat + c.b.toNat) % Config.modulus)

/-- `D(y) = (cfg.AINV * (y - cfg.B + 256)) mod 256`, exact and then narrowed (R143). -/
def Cfg.decryptByte (c : Cfg) (y : Byte) : Byte :=
  BitVec.ofInt 8
    (((c.ainv.toNat : Int) * ((y.toNat : Int) - (c.b.toNat : Int) + 256)) % (Config.modulus : Int))

/-- The per-byte function of a direction: `E` for ENC, `D` for DEC (R175). -/
def Cfg.transform (c : Cfg) (op : EngOp) (x : Byte) : Byte :=
  match op with
  | .enc => c.encryptByte x
  | .dec => c.decryptByte x

/-- `encBuf(B)` (R170). -/
def Cfg.encryptBuffer (c : Cfg) (buffer : List Byte) : List Byte := buffer.map c.encryptByte

/-- `decBuf(B)` (R170). -/
def Cfg.decryptBuffer (c : Cfg) (buffer : List Byte) : List Byte := buffer.map c.decryptByte

end Sys2Proof.Machine
end

