-- ==== Sys2Proof/Machine/Ops.lean ====
section
/-! DEFINITION. The named operations every meaning is written with: host memory, the platform's answer
to an engine access, free values, and the acceptance and the end of a command. The end of a command is
the one exception-like entry of this block (60_exceptions.md R206) and the acknowledge is its return
(R207); both stand here once. -/

namespace Sys2Proof.Machine

/-! ### Host memory (20_memory.md R60, R61) -/

/-- The byte at an address. -/
def Memory.read : Memory → Nat → Byte
  | [], _ => Config.unlistedByte
  | (k, v) :: m, a => if k = a then v else Memory.read m a

/-- Put a byte at an address, keeping the canonical form: an unlisted value is not listed. -/
def Memory.write : Memory → Nat → Byte → Memory
  | [], a, v => if v = Config.unlistedByte then [] else [(a, v)]
  | (k, w) :: m, a, v =>
    if a < k then (if v = Config.unlistedByte then (k, w) :: m else (a, v) :: (k, w) :: m)
    else if a = k then (if v = Config.unlistedByte then m else (a, v) :: m)
    else (k, w) :: Memory.write m a v

/-- The canonical form from address `lo` on: addresses strictly rising and inside the address space, and
no entry equal to what an unlisted address reads as. -/
def Memory.wfFrom (lo : Nat) : Memory → Bool
  | [] => true
  | (k, v) :: m =>
    lo ≤ k && k < Config.addressSpace && v ≠ Config.unlistedByte && Memory.wfFrom (k + 1) m

/-- The canonical form of memory. -/
def Memory.wf (m : Memory) : Bool := Memory.wfFrom 0 m

/-- Make each of the listed bytes unspecified: the free values from number `k` on, one each, in order. -/
def Memory.drawAll : Memory → Nat → List Word → Memory
  | m, _, [] => m
  | m, k, a :: rest => Memory.drawAll (m.write a.toNat (Config.freeByte k)) (k + 1) rest

/-- The `n` byte addresses from `a` up. -/
def addressRange (a : Word) (n : Nat) : List Word :=
  (List.range n).map fun i => a + BitVec.ofNat 32 i

/-- `Mem[addr] <- v`. -/
def State.setByte (s : State) (a : Word) (v : Byte) : State := { s with mem := s.mem.write a.toNat v }

/-- Make the listed bytes of memory unspecified (a draw each). -/
def State.drawBytes (s : State) (addrs : List Word) : State :=
  { s with mem := s.mem.drawAll s.draws addrs, draws := s.draws + addrs.length }

/-- The next free value, taken without a memory effect. -/
def State.freshByte (s : State) : Byte := Config.freeByte s.draws

/-- One free value has been used. -/
def State.useDraw (s : State) : State := { s with draws := s.draws + 1 }

/-! ### Single fields -/

/-- The rest of what the agents do next. -/
def State.withSchedule (s : State) (rest : List Event) : State := { s with schedule := rest }

/-- CTRL.IE (10_state.md R25). -/
def State.setIe (s : State) (b : Bool) : State := { s with ie := b }

/-- SRC (10_state.md R35). -/
def State.setSrc (s : State) (v : Word) : State := { s with src := v }

/-- DST (10_state.md R36). -/
def State.setDst (s : State) (v : Word) : State := { s with dst := v }

/-- LEN (10_state.md R37). -/
def State.setLen (s : State) (v : Word) : State := { s with len := v }

/-- COUNT (10_state.md R38). -/
def State.setCount (s : State) (v : Word) : State := { s with count := v }

/-- RESULT.BYTE (10_state.md R34). -/
def State.setResult (s : State) (v : Byte) : State := { s with result := v }

/-- The hidden configuration (10_state.md R40). -/
def State.setCfg (s : State) (c : Cfg) : State := { s with cfg := c }

/-- `eng.OP <- op` and `BUSY <- 1`: the engine runs (42_buffer_transform.md R174). -/
def State.startEngine (s : State) (op : EngOp) : State := { s with engOp := op, busy := true }

/-- Discard the configuration and the last result (40_configuration.md R114 on failure, R115). -/
def State.discard (s : State) : State := { s with cfg := Cfg.cleared, result := 0#8 }

/-! ### The platform (00_scope.md R9) -/

/-- Whether a region gives the answer to an access. -/
def Region.holds (r : Region) (a : Word) (k : AccessKind) : Bool :=
  r.kind = k && r.base ≤ a.toNat && a.toNat < r.base + r.size

/-- How the platform answers an engine access at `a`: the first region that holds it decides. -/
def Platform.answer (p : Platform) (a : Word) (k : AccessKind) : Answer :=
  match p.regions.find? fun r => r.holds a k with
  | some r => r.answer
  | none => .ok

/-- `REG_BASE`, a multiple of 64 (R9, R22). -/
def Platform.regBase (p : Platform) : Nat := Config.windowBytes * p.windowIndex

/-- `NUM_HOSTS`, at least 1 (R9). -/
def Platform.numHosts (p : Platform) : Nat := p.extraHosts + 1

/-! ### Engine accesses (20_memory.md R61) -/

/-- The byte addresses of the engine's next read and write: `SRC + COUNT` and `DST + COUNT` (R175). -/
def State.readAddr (s : State) : Word := s.src + s.count

/-- See `State.readAddr`. -/
def State.writeAddr (s : State) : Word := s.dst + s.count

/-- An answered engine access, as the host bus sees it (R66; log entries 12 and 15). -/
def State.logAccess (s : State) (k : AccessKind) (a : Word) : State :=
  { s with busLog := ⟨k, a⟩ :: s.busLog }

/-! ### Acceptance and end of a command -/

/-- The first lines of `issue(w)` (30_encoding.md R95): an accepted command clears DONE and ERRCODE. -/
def State.accept (s : State) : State := { s with done := false, errcode := .none }

/-- The end of a command (60_exceptions.md R206; 00_scope.md R13): ERRCODE takes the outcome, DONE is
set and BUSY is cleared. -/
def State.endCommand (s : State) (e : ErrCode) : State :=
  { s with errcode := e, done := true, busy := false }

/-- `complete()` (00_scope.md R13). -/
def State.complete (s : State) : State := s.endCommand .none

/-- `raise E()` (00_scope.md R13). -/
def State.raise (s : State) (e : ErrCode) : State := s.endCommand e

/-- A STATUS write of `w`: bit 2 clears DONE and bit 4 clears OVR, all other bits are ignored
(10_state.md R26). Writing bit 2 is the acknowledge of R207. -/
def State.acknowledge (s : State) (w : Word) : State :=
  { s with done := s.done && !w[2], ovr := s.ovr && !w[4] }

/-- A write to CMD, SRC, DST or LEN that is lost because BUSY is 1 (10_state.md R39). -/
def State.overrun (s : State) : State := { s with ovr := true }

/-- What the host that made the access gets back (60_exceptions.md R215). -/
def State.answerHost (s : State) (host : Nat) (r : Reply) : State := { s with reply := some (host, r) }

/-! ### Races (20_memory.md R73) -/

/-- The destination byte at `a` is unspecified at the command's end. -/
def State.taint (s : State) (a : Word) : State :=
  if a ∈ s.tainted then s else { s with tainted := a :: s.tainted }

/-- At a command's end every raced destination byte becomes a draw. -/
def State.settleRaces (s : State) : State := { s.drawBytes s.tainted with tainted := [] }

/-! ### Placing a command -/

/-- The state in which the next step is a host's accepted write of `w` to CMD. A command is accepted only
while BUSY is 0 (30_encoding.md R95), and no race is open then (log entry 2). -/
def State.placeCommand (s : State) (w : Word) : State :=
  { s with
    busy := false
    tainted := []
    schedule := .regWrite 0 .w32 0x0C#6 w :: s.schedule }

end Sys2Proof.Machine
end

