-- ==== Sys2Proof/Machine/Operands.lean ====
section
/-! DEFINITION. Every operand form of the block: which register an access to the window names
(10_state.md R22, R23), and the source and destination ranges a buffer command takes from SRC, DST and
LEN (42_buffer_transform.md R172). -/

namespace Sys2Proof

/-- The offset of a register in the window (R22). -/
def Reg.offset : Reg → BitVec 6
  | .id => 0x00#6
  | .ctrl => 0x04#6
  | .status => 0x08#6
  | .cmd => 0x0C#6
  | .result => 0x10#6
  | .src => 0x14#6
  | .dst => 0x18#6
  | .len => 0x1C#6
  | .count => 0x20#6

namespace Machine

/-- What a host access to the window reaches. -/
inductive Selected where
  /-- Not a 32-bit access at a 4-aligned offset: a bus error and no effect (R23 item 1). -/
  | busError
  /-- A reserved offset, 0x24 to 0x3C: reads 0 and ignores writes (R23 item 2). -/
  | reserved
  | register (r : Reg)
  deriving DecidableEq, Repr

/-- The register at a word offset (R22). -/
def selectOffset (offset : BitVec 6) : Selected :=
  if offset = 0x00#6 then .register .id
  else if offset = 0x04#6 then .register .ctrl
  else if offset = 0x08#6 then .register .status
  else if offset = 0x0C#6 then .register .cmd
  else if offset = 0x10#6 then .register .result
  else if offset = 0x14#6 then .register .src
  else if offset = 0x18#6 then .register .dst
  else if offset = 0x1C#6 then .register .len
  else if offset = 0x20#6 then .register .count
  else if offset.toNat % 4 = 0 then .reserved
  else .busError

/-- Only a 32-bit access at a multiple of 4 is accepted (R23 item 1, R65). -/
def selectRegister (width : AccessWidth) (offset : BitVec 6) : Selected :=
  match width with
  | .w32 => selectOffset offset
  | .w8 | .w16 | .w64 => .busError

/-- An address of the host map that lies in the register window (R22). -/
def Platform.inWindow (p : Platform) (a : Nat) : Bool :=
  p.regBase ≤ a && a < p.regBase + Config.windowBytes

/-- Whether the byte range of `n` bytes from `base` meets the register window (20_memory.md R68). -/
def Platform.meetsWindow (p : Platform) (base n : Nat) : Bool :=
  base < p.regBase + Config.windowBytes && p.regBase < base + n && 0 < n

/-- `range_ok()`, the sums computed exactly (R172). -/
def State.rangeOk (s : State) : Bool :=
  s.src.toNat + s.len.toNat ≤ Config.addressSpace
    && s.dst.toNat + s.len.toNat ≤ Config.addressSpace
    && !(s.src.toNat < s.dst.toNat && s.dst.toNat < s.src.toNat + s.len.toNat)

/-- Neither buffer meets the block's own register window (20_memory.md R68). -/
def State.windowClear (s : State) : Bool :=
  !s.plat.meetsWindow s.src.toNat s.len.toNat && !s.plat.meetsWindow s.dst.toNat s.len.toNat

/-- An address in the source range `[SRC, SRC + LEN)` (20_memory.md R73). -/
def State.inSource (s : State) (a : Word) : Bool :=
  s.src.toNat ≤ a.toNat && a.toNat < s.src.toNat + s.len.toNat

/-- An address in the destination range `[DST, DST + LEN)` (20_memory.md R73). -/
def State.inDest (s : State) (a : Word) : Bool :=
  s.dst.toNat ≤ a.toNat && a.toNat < s.dst.toNat + s.len.toNat

end Machine

end Sys2Proof
end

