-- ==== Sys2Proof/Machine/Flags.lean ====
section
/-! DEFINITION. The register values and flags the block computes: CTRL, STATUS with its derived bits, RESULT,
what each register reads as, and the interrupt output (10_state.md R22 to R38, R44). -/

namespace Sys2Proof.Machine

/-- The number of an outcome code (60_exceptions.md R200). -/
def ErrCode.code : ErrCode → BitVec 4
  | .none => 0#4
  | .invalidParameters => 1#4
  | .notConfigured => 2#4
  | .invalidCommand => 3#4
  | .invalidRange => 4#4
  | .busErrorRead => 5#4
  | .busErrorWrite => 6#4

/-- STATUS.ERR is not stored: it is 1 exactly when ERRCODE is not 0 (R30). -/
def State.err (s : State) : Bool := s.errcode.code ≠ 0#4

/-- `irq = IE AND DONE` at every moment (R44). -/
def State.irq (s : State) : Bool := s.ie && s.done

/-- CTRL: bit 0 is IE, the rest read 0 (R25). -/
def State.ctrlWord (s : State) : Word := 0#31 ++ BitVec.ofBool s.ie

/-- STATUS, from bit 31 down: reserved, ERRCODE, reserved, OVR, ERR, DONE, CONFIGURED, BUSY (R26). -/
def State.statusWord (s : State) : Word :=
  0#20 ++ s.errcode.code ++ 0#3 ++ BitVec.ofBool s.ovr ++ BitVec.ofBool s.err
    ++ BitVec.ofBool s.done ++ BitVec.ofBool s.cfg.valid ++ BitVec.ofBool s.busy

/-- RESULT: bits 7:0 are RESULT.BYTE, the rest read 0 (R34). -/
def State.resultWord (s : State) : Word := 0#24 ++ s.result

/-- What a register reads as (R22 to R38). CMD is write-only and reads 0 (R23 item 4). -/
def State.readRegister (s : State) : Reg → Word
  | .id => Config.idValue
  | .ctrl => s.ctrlWord
  | .status => s.statusWord
  | .cmd => 0#32
  | .result => s.resultWord
  | .src => s.src
  | .dst => s.dst
  | .len => s.len
  | .count => s.count

end Sys2Proof.Machine
end

