-- ==== Sys2Proof/Machine/BufferTransform.lean ====
section
/-! DEFINITION. ENCBUF, DECBUF and the engine's byte step (42_buffer_transform.md R172 to R177). -/

namespace Sys2Proof.Machine

/-- `exec_BUF(op)` (R174). The refusal is 20_memory.md R68's, and it comes only where the engine would
start (log entry 9). -/
def startBuffer (op : EngOp) (s : State) : Host.Outcome State Fault Refusal :=
  if !s.cfg.valid then .next (s.raise .notConfigured)
  else if !s.rangeOk then .next (s.raise .invalidRange)
  else if s.len = 0#32 then .next (s.setCount 0#32).complete
  else if !s.windowClear then .refused .rangeInWindow
  else .next ((s.setCount 0#32).startEngine op)

/-- ENCBUF (R176). -/
def execEncbuf (s : State) : Host.Outcome State Fault Refusal := startBuffer .enc s

/-- DECBUF (R177). -/
def execDecbuf (s : State) : Host.Outcome State Fault Refusal := startBuffer .dec s

/-- The byte the engine writes at this index: `E` or `D` of the byte it reads (R175). -/
def State.engineByte (s : State) : Byte := s.cfg.transform s.engOp (s.mem.read s.readAddr.toNat)

/-- A read that got a bus error ends the command (R175). Like every command's end, it settles the races
of 20_memory.md R73. -/
def State.endReadError (s : State) : State :=
  (s.logAccess .read s.readAddr).settleRaces.raise .busErrorRead

/-- A write that got a bus error leaves its byte unspecified (20_memory.md R61) and ends the command. -/
def State.endWriteError (s : State) : State :=
  ((((s.logAccess .read s.readAddr).logAccess .write s.writeAddr).drawBytes
    [s.writeAddr]).settleRaces).raise .busErrorWrite

/-- The byte at this index is transformed and COUNT advances (R175, R70). -/
def State.moveByte (s : State) : State :=
  (((s.logAccess .read s.readAddr).logAccess .write s.writeAddr).setByte s.writeAddr
    s.engineByte).setCount (s.count + 1#32)

/-- `engine_step()` (R175), one atomic step (log entry 19); enabled only while BUSY is 1. An access that is
never answered leaves the engine stuck with BUSY 1 (R181; log entry 8). -/
def engineStep (s : State) : State :=
  if !s.busy then s
  else
    match s.plat.answer s.readAddr .read with
    | .silent => s
    | .busError => s.endReadError
    | .ok =>
      match s.plat.answer s.writeAddr .write with
      | .silent => s
      | .busError => s.endWriteError
      | .ok =>
        if s.moveByte.count = s.len then s.moveByte.settleRaces.complete else s.moveByte

end Sys2Proof.Machine
end

