-- ==== Sys2Proof/Machine/ByteTransform.lean ====
section
/-! DEFINITION. ENCB and DECB (41_byte_transform.md R147, R148). -/

namespace Sys2Proof.Machine

/-- A byte command in one direction: RESULT takes the transformed byte, or NOT_CONFIGURED with RESULT
unchanged. -/
def byteCommand (op : EngOp) (x : Byte) (s : State) : Host.Outcome State Fault Refusal :=
  if s.cfg.valid then .next (s.setResult (s.cfg.transform op x)).complete
  else .next (s.raise .notConfigured)

/-- ENCB x (R147). -/
def execEncb (x : Byte) (s : State) : Host.Outcome State Fault Refusal := byteCommand .enc x s

/-- DECB y (R148). -/
def execDecb (y : Byte) (s : State) : Host.Outcome State Fault Refusal := byteCommand .dec y s

end Sys2Proof.Machine
end

