-- ==== Sys2Proof/Machine/Configuration.lean ====
section
/-! DEFINITION. NOP, CFG and CLR (40_configuration.md R110, R114, R115). -/

namespace Sys2Proof.Machine

/-- The configuration a successful `CFG a, b` latches (R114). -/
def Cfg.construct (a b : Byte) : Cfg := ⟨a, b, inverse a, true⟩

/-- NOP (R110). -/
def execNop (s : State) : Host.Outcome State Fault Refusal := .next s.complete

/-- CFG a, b (R114). -/
def execCfg (a b : Byte) (s : State) : Host.Outcome State Fault Refusal :=
  if validMultiplier a then .next (s.setCfg (Cfg.construct a b)).complete
  else .next (s.discard.raise .invalidParameters)

/-- CLR (R115). -/
def execClr (s : State) : Host.Outcome State Fault Refusal := .next s.discard.complete

end Sys2Proof.Machine
end

