-- ==== Sys2Proof/Machine/Dispatch.lean ====
section
/-! DEFINITION. The command dispatch (30_encoding.md R95): one meaning per command. -/

namespace Sys2Proof.Machine

/-- What an accepted command does, after `issue` has cleared DONE and ERRCODE (R95). -/
def exec (i : Instr) (s : State) : Host.Outcome State Fault Refusal :=
  match i with
  | .nop => Sys2Proof.Machine.execNop s
  | .cfg a b => Sys2Proof.Machine.execCfg a b s
  | .encb x => Sys2Proof.Machine.execEncb x s
  | .decb y => Sys2Proof.Machine.execDecb y s
  | .encbuf => Sys2Proof.Machine.execEncbuf s
  | .decbuf => Sys2Proof.Machine.execDecbuf s
  | .clr => Sys2Proof.Machine.execClr s

end Sys2Proof.Machine
end

