-- ==== Sys2Proof/Machine/Agents.lean ====
section
/-! DEFINITION. What one atomic step of each agent does (00_scope.md R14): host accesses to the register
window, host accesses to memory, the engine and reset. -/

namespace Sys2Proof.Machine

/-- `issue(w)` (30_encoding.md R95). An invalid word ends with INVALID_COMMAND and has no other effect
(R94). -/
def issue (w : Word) (s : State) : Host.Outcome State Fault Refusal :=
  match decode w with
  | .command i => exec i s.accept
  | .invalid => .next (s.accept.raise .invalidCommand)

/-- A host read of the window (10_state.md R22, R23). No read has a side effect on the block. -/
def hostRegRead (host : Nat) (width : AccessWidth) (offset : BitVec 6) (s : State) : State :=
  match selectRegister width offset with
  | .busError => s.answerHost host .busError
  | .reserved => s.answerHost host (.word 0#32)
  | .register r => s.answerHost host (.word (s.readRegister r))

/-- An accepted write of `v` to a register (R23 to R39). A CMD write is the only one that can be
refused, by the command it issues. -/
def writeRegister (r : Reg) (v : Word) (s : State) : Host.Outcome State Fault Refusal :=
  match r with
  | .ctrl => .next (s.setIe v[0])
  | .status => .next (s.acknowledge v)
  | .cmd => if s.busy then .next s.overrun else issue v s
  | .src => .next (if s.busy then s.overrun else s.setSrc v)
  | .dst => .next (if s.busy then s.overrun else s.setDst v)
  | .len => .next (if s.busy then s.overrun else s.setLen v)
  | .id => .next s
  | .result => .next s
  | .count => .next s

/-- A host write to the window (10_state.md R23). -/
def hostRegWrite (host : Nat) (width : AccessWidth) (offset : BitVec 6) (v : Word) (s : State) :
    Host.Outcome State Fault Refusal :=
  match selectRegister width offset with
  | .busError => .next (s.answerHost host .busError)
  | .reserved => .next (s.answerHost host .ok)
  | .register r => writeRegister r v (s.answerHost host .ok)

/-- Whether an access through a host cache may see or leave a stale byte (20_memory.md R78). -/
def State.stale (s : State) (cached : Bool) : Bool := cached && !s.plat.hostCoherent

/-- A host's own read of a byte of memory. In the register window it is an 8-bit access and gets a bus
error (10_state.md R23). A destination byte of a running command reads as a draw (20_memory.md R73 item
1), and so does a byte read through a cache that is not coherent (70_reset_and_hazards.md R244). A byte of
the source range alone reads as memory holds it (DEDUCED, log entry 11; log entries 10 and 13). -/
def hostMemRead (host : Nat) (cached : Bool) (a : Word) (s : State) : State :=
  if s.plat.inWindow a.toNat then s.answerHost host .busError
  else if (s.busy && s.inDest a) || s.stale cached then
    s.useDraw.answerHost host (.byte s.freshByte)
  else s.answerHost host (.byte (s.mem.read a.toNat))

/-- The byte a host write leaves in memory: the value written, or a draw where the write stops in a
cache that is not coherent (20_memory.md R71, R78; log entry 10). -/
def hostStore (cached : Bool) (a : Word) (v : Byte) (s : State) : State :=
  if s.stale cached then s.drawBytes [a] else s.setByte a v

/-- The races a host write to `a` opens while a buffer command runs: the destination byte of the same
index as a source byte (20_memory.md R73 item 2), and a destination byte itself (item 3; log entry 11). -/
def hostRace (a : Word) (s : State) : State :=
  let t := if s.busy && s.inSource a then s.taint (s.dst + (a - s.src)) else s
  if s.busy && s.inDest a then t.taint a else t

/-- A host's own write of a byte of memory. -/
def hostMemWrite (host : Nat) (cached : Bool) (a : Word) (v : Byte) (s : State) : State :=
  if s.plat.inWindow a.toNat then s.answerHost host .busError
  else (hostRace a (hostStore cached a v s)).answerHost host .ok

/-- Reset (70_reset_and_hazards.md R240): every piece of the block's state takes its reset value. A
running command's whole destination range becomes unspecified (R241). Memory, the platform and what the
agents do next are not the block's (log entry 17). -/
def resetBlock (s : State) : State :=
  let t := if s.busy then s.drawBytes (addressRange s.dst s.len.toNat) else s
  { State.reset with
    mem := t.mem
    draws := t.draws
    busLog := t.busLog
    plat := t.plat
    schedule := t.schedule }

/-- One atomic step of an agent (00_scope.md R14). -/
def handle (e : Event) (s : State) : Host.Outcome State Fault Refusal :=
  match e with
  | .regRead host width offset => .next (hostRegRead host width offset s)
  | .regWrite host width offset v => hostRegWrite host width offset v s
  | .memRead host cached a => .next (hostMemRead host cached a s)
  | .memWrite host cached a v => .next (hostMemWrite host cached a v s)
  | .engine => .next (engineStep s)
  | .reset => .next (resetBlock s)

/-- The next step: the first scheduled event, or the engine when none is scheduled. A quiescent block
with nothing scheduled stays as it is (70_reset_and_hazards.md R246; log entry 1). -/
def nextStep (s : State) : Host.Outcome State Fault Refusal :=
  match s.schedule with
  | [] => .next (engineStep s)
  | e :: rest => handle e (s.withSchedule rest)

end Sys2Proof.Machine
end

