-- ==== Sys2Proof/Machine/Step.lean ====
section
/-! DEFINITION. One step of the machine, and how a command is placed for the next step to run. -/

namespace Sys2Proof.Machine

/-- One atomic step (00_scope.md R14). -/
def step (s : State) : Host.Outcome State Fault Refusal := nextStep s

/-- The state whose very next step is the accepted host write, to CMD, of the command word whose low
`nbits` bits are `w` (30_encoding.md R90, R95; log entry 2). -/
def State.withFetchWord (s : State) (nbits w : Nat) : State :=
  s.placeCommand ((BitVec.ofNat nbits w).setWidth 32)

end Sys2Proof.Machine
end

