-- ==== Sys2Proof/Machine/Driver.lean ====
section
/-! DEFINITION. The driver-level notation (30_encoding.md R98, R99): what host accesses a line stands for. -/

namespace Sys2Proof.Machine

/-- `WR <reg>, <v32>` (R98). -/
def writeLine (host : Nat) (r : Reg) (v : Word) : Event := .regWrite host .w32 r.offset v

/-- `RD <reg>` (R98). -/
def readLine (host : Nat) (r : Reg) : Event := .regRead host .w32 r.offset

/-- A command line is a `WR CMD` of its word (R98). -/
def commandLine (host : Nat) (i : Instr) : Event := writeLine host .cmd (encode i)

/-- `WAIT`: the host reads STATUS until BUSY reads 0. How many reads return BUSY = 1 first is the
schedule's (95_test_vectors.md P6), so it is an argument (log entry 20). -/
def waitLines (host polls : Nat) : List Event := List.replicate (polls + 1) (readLine host .status)

/-- `WR SRC`, `WR DST`, `WR LEN`, the command, `WAIT` (R99). -/
def bufferLines (host polls : Nat) (i : Instr) (src dst len : Word) : List Event :=
  [writeLine host .src src, writeLine host .dst dst, writeLine host .len len, commandLine host i]
    ++ waitLines host polls

/-- The accesses a line stands for (R98, R99). -/
def expandLine (host polls : Nat) : Asm → List Event
  | .wr r v => [writeLine host r v]
  | .rd r => [readLine host r]
  | .nop => [commandLine host .nop]
  | .cfg a b => [commandLine host (.cfg (BitVec.ofInt 8 a) (BitVec.ofInt 8 b))]
  | .encb x => [commandLine host (.encb (BitVec.ofInt 8 x))]
  | .decb y => [commandLine host (.decb (BitVec.ofInt 8 y))]
  | .encbuf => [commandLine host .encbuf]
  | .decbuf => [commandLine host .decbuf]
  | .clr => [commandLine host .clr]
  | .cfgi a b => [commandLine host (.cfg (BitVec.ofInt 8 (a % 256)) (BitVec.ofInt 8 (b % 256)))]
  | .wait => waitLines host polls
  | .enc src dst len => bufferLines host polls .encbuf src dst len
  | .dec src dst len => bufferLines host polls .decbuf src dst len
  | .ack => [writeLine host .status 0x00000014#32]

/-- The assembler: it refuses an operand of CFG, ENCB or DECB outside `[0, 255]` (R98). -/
def assemble (host polls : Nat) (line : Asm) : Option (List Event) :=
  if line.wellFormed then some (expandLine host polls line) else none

end Sys2Proof.Machine
end

