-- ==== Sys2Proof/Safety.lean ====
section
/-! DEFINITION. What holds of a sound state, what a host owes the block, and what a host can observe
(10_state.md R42; 20_memory.md R73; 70_reset_and_hazards.md R246). -/

namespace Sys2Proof.Machine

/-- The configuration invariant of R42. -/
abbrev Cfg.Consistent (c : Cfg) : Prop :=
  (c.valid = true → c.a.toNat % 2 = 1 ∧ (c.a.toNat * c.ainv.toNat) % 256 = 1) ∧
    (c.valid = false → c.a = 0#8 ∧ c.b = 0#8 ∧ c.ainv = 0#8)

/-- What holds while a buffer command runs: it passed its checks (42_buffer_transform.md R173, R174), its
index is below LEN (R175), and its end has not been reported (10_state.md R29, R32). -/
abbrev State.RunConsistent (s : State) : Prop :=
  s.busy = true →
    s.cfg.valid = true ∧ s.done = false ∧ s.errcode = .none ∧ s.count.toNat < s.len.toNat ∧
      s.rangeOk = true ∧ s.windowClear = true

/-- Races are open only while a buffer command runs, and only for its destination bytes (20_memory.md
R73). -/
abbrev State.RacesConsistent (s : State) : Prop :=
  (s.busy = false → s.tainted = []) ∧ s.tainted.Nodup ∧ s.tainted.all s.inDest = true

/-- The invariant of the machine. -/
abbrev State.Inv (s : State) : Prop :=
  s.cfg.Consistent ∧ s.RunConsistent ∧ s.RacesConsistent ∧ s.mem.wf = true

/-- The block is quiescent when BUSY is 0 (70_reset_and_hazards.md R246). -/
def State.quiescent (s : State) : Bool := !s.busy

/-- The registers of R22 in the order of their offsets. -/
def registerNames : List Reg := [.id, .ctrl, .status, .cmd, .result, .src, .dst, .len, .count]

/-- The observable result of R246: what every register reads as, and host memory. -/
def State.observed (s : State) : List Word × Memory := (registerNames.map s.readRegister, s.mem)

/-- A host access that races with the engine: an access to a byte of either range while BUSY is 1
(20_memory.md R73). -/
def Event.races (e : Event) (s : State) : Bool :=
  match e with
  | .memRead _ _ a => s.busy && (s.inSource a || s.inDest a)
  | .memWrite _ _ a _ => s.busy && (s.inSource a || s.inDest a)
  | .regRead _ _ _ | .regWrite _ _ _ _ | .engine | .reset => false

/-- An event of one of the `NUM_HOSTS` bus masters (00_scope.md R9). -/
def Event.fromHost (e : Event) (p : Platform) : Bool :=
  match e with
  | .regRead host _ _ => host < p.numHosts
  | .regWrite host _ _ _ => host < p.numHosts
  | .memRead host _ _ => host < p.numHosts
  | .memWrite host _ _ _ => host < p.numHosts
  | .engine | .reset => true

/-- What is scheduled keeps the duties of 60_exceptions.md R215 at its next step: the bus master exists
and its access races with no running command. -/
def State.orderly (s : State) : Bool :=
  match s.schedule with
  | [] => true
  | e :: _ => e.fromHost s.plat && !e.races s

/-- Every engine access from index `i` up to but not including `n` completes (00_scope.md R9, `MEM_OK`). -/
def State.AccessesOk (s : State) (i n : Nat) : Prop :=
  ∀ j, i ≤ j → j < n →
    s.plat.answer (s.src + BitVec.ofNat 32 j) .read = .ok ∧
      s.plat.answer (s.dst + BitVec.ofNat 32 j) .write = .ok

/-! ### Terms of the claims -/

/-- `n` steps of the machine, stopping at a refusal. -/
def steps (n : Nat) (s : State) : Host.Outcome State Fault Refusal := core.run n s

/-- The next step is an accepted host access: a 32-bit write of `v` to register `r` (10_state.md R23). -/
def State.writesNext (s : State) (r : Reg) (v : Word) : Prop :=
  ∃ host rest, s.schedule = .regWrite host .w32 r.offset v :: rest

/-- The next step is an accepted command `i`: a write of its word to CMD while BUSY is 0 (30_encoding.md
R95). -/
def State.acceptsNext (s : State) (i : Instr) : Prop :=
  s.busy = false ∧ ∃ w, s.writesNext .cmd w ∧ decode w = .command i

/-- The next step is a reset (70_reset_and_hazards.md R240). -/
def State.resetsNext (s : State) : Prop := ∃ rest, s.schedule = .reset :: rest

/-- The next step is the engine's: nothing is scheduled, or an engine step is (00_scope.md R14). -/
def State.enginesNext (s : State) : Prop := s.schedule = [] ∨ ∃ rest, s.schedule = .engine :: rest

/-- What no command changes inside its CMD write, whatever its outcome: CTRL, OVR, SRC, DST, LEN, every
byte of memory, the engine's accesses, and what is not the block's (60_exceptions.md R202; 20_memory.md
R74; 42_buffer_transform.md R173). -/
def CommandFrame (s t : State) : Prop :=
  t.ie = s.ie ∧ t.ovr = s.ovr ∧ t.src = s.src ∧ t.dst = s.dst ∧ t.len = s.len ∧
    (∀ a, t.mem.read a = s.mem.read a) ∧ t.tainted = s.tainted ∧ t.draws = s.draws ∧
    t.busLog = s.busLog ∧ t.plat = s.plat ∧ t.schedule = s.schedule ∧ t.reply = s.reply

/-- The command has ended with the outcome `e` (60_exceptions.md R206). -/
def State.endedWith (s : State) (e : ErrCode) : Prop :=
  s.errcode = e ∧ s.done = true ∧ s.busy = false

/-- Every register and every hidden field of the block, compared (10_state.md R20). -/
def SameBlock (s t : State) : Prop :=
  t.ie = s.ie ∧ t.busy = s.busy ∧ t.done = s.done ∧ t.ovr = s.ovr ∧ t.errcode = s.errcode ∧
    t.result = s.result ∧ t.src = s.src ∧ t.dst = s.dst ∧ t.len = s.len ∧ t.count = s.count ∧
    t.cfg = s.cfg ∧ t.engOp = s.engOp

/-- Nothing in reach of the block has changed: its own state, memory, races, free values, the engine's
accesses and the platform. -/
def SameMachine (s t : State) : Prop :=
  SameBlock s t ∧ t.mem = s.mem ∧ t.tainted = s.tainted ∧ t.draws = s.draws ∧ t.busLog = s.busLog ∧
    t.plat = s.plat

end Sys2Proof.Machine
end

