-- ==== Sys2Proof/Certificates/Slice0/Obligations.lean ====
section
/-! DEFINITION. The statements about the block, by topic: encoding, arithmetic, commands, the register
window, what changes what, the engine, races, reset, and invariants. -/

open Sys2Proof Sys2Proof.Machine

/-! ### Encoding (30_encoding.md) -/

/-- For every command, decoding its word gives it back, with every operand at every value (R92, R93). -/
def Obligations.DecodeEncodeRoundTrip : Prop := ∀ i : Instr, decode (encode i) = .command i

/-- A word that decodes to a command is that command's one word, so no bit of a word is dropped (R91,
R93, R94). -/
def Obligations.DecodedWordIsItsEncoding : Prop :=
  ∀ (w : Word) (i : Instr), decode w = .command i → encode i = w

/-- R93: a word is the command of a row exactly when it matches the row under its mask, no two rows match
one word, and the operands are the fields F1 and F2. -/
def Obligations.OpcodeMapDecidesCommand : Prop :=
  (∀ (w : Word) (i : Instr),
      rowMatches i w = true ↔
        ∃ j, decode w = .command j ∧ (encodeFields j).op = (encodeFields i).op) ∧
    (∀ (w : Word) (i j : Instr), rowMatches i w = true → rowMatches j w = true →
      (encodeFields i).op = (encodeFields j).op) ∧
    (∀ (w : Word) (a b : Byte), decode w = .command (.cfg a b) →
      a = w.extractLsb' 8 8 ∧ b = w.extractLsb' 16 8) ∧
    (∀ (w : Word) (x : Byte), decode w = .command (.encb x) → x = w.extractLsb' 8 8) ∧
    (∀ (w : Word) (y : Byte), decode w = .command (.decb y) → y = w.extractLsb' 8 8)

/-- R94: a word is invalid exactly when its opcode is 0x7 to 0xF, or Z1 or Z2 is not 0, or a field that
R92 says must be 0 is not; issuing it reports INVALID_COMMAND and has no other effect. -/
def Obligations.InvalidWordsReportInvalidCommand : Prop :=
  (∀ w : Word, decode w = .invalid ↔
      (7 ≤ (w.extractLsb' 0 4).toNat ∨ w.extractLsb' 4 4 ≠ 0#4 ∨ w.extractLsb' 24 8 ≠ 0#8 ∨
        ((w.extractLsb' 0 4).toNat ∈ [0, 4, 5, 6] ∧
          (w.extractLsb' 8 8 ≠ 0#8 ∨ w.extractLsb' 16 8 ≠ 0#8)) ∨
        ((w.extractLsb' 0 4).toNat ∈ [2, 3] ∧ w.extractLsb' 16 8 ≠ 0#8))) ∧
    (∀ (w : Word) (s : State), decode w = .invalid → ∃ t, issue w s = .next t ∧
      t.endedWith .invalidCommand ∧ t.cfg = s.cfg ∧ t.result = s.result ∧ t.count = s.count ∧
      t.engOp = s.engOp ∧ CommandFrame s t)

/-- Words written out from the encodings of R93 and R98 decode to the commands they stand for, and words
with one wrong bit are invalid. -/
def Obligations.SpecWordsDecode : Prop :=
  decode 0x00000000#32 = .command .nop ∧
    decode 0x00080501#32 = .command (.cfg 5#8 8#8) ∧
    decode 0x00004102#32 = .command (.encb 0x41#8) ∧
    decode 0x00004D03#32 = .command (.decb 0x4D#8) ∧
    decode 0x00000004#32 = .command .encbuf ∧
    decode 0x00000005#32 = .command .decbuf ∧
    decode 0x00000006#32 = .command .clr ∧
    decode 0x00000007#32 = .invalid ∧
    decode 0x00000100#32 = .invalid ∧
    decode 0x01080501#32 = .invalid ∧
    decode 0x00080511#32 = .invalid ∧
    decode 0x00014102#32 = .invalid

/-- `CFGI a, b` of R99 is one `CFG`, its configuration is valid exactly when `gcd(a, 256) = 1`, and it
then gives the transform of the integer construction: `E(x) = (a*x + b) mod 256`. -/
def Obligations.CfgiGivesTheIntegerConstruction : Prop :=
  ∀ (a b : Int) (host polls : Nat),
    ∃ a' b' : Byte,
      assemble host polls (.cfgi a b) = some [.regWrite host .w32 0x0C#6 (encode (.cfg a' b'))] ∧
        (a'.toNat : Int) = a % 256 ∧ (b'.toNat : Int) = b % 256 ∧
        (validMultiplier a' = true ↔ Int.gcd a 256 = 1) ∧
        ∀ x : Byte, (((Cfg.construct a' b').encryptByte x).toNat : Int) = (a * x.toNat + b) % 256

/-- R98: the assembler accepts a CFG line exactly when both operands lie in `[0, 255]`, an ENCB or DECB
line exactly when its operand does, and an accepted line is a write to CMD of the word R98 gives. -/
def Obligations.AssemblerChecksOperands : Prop :=
  (∀ (host polls : Nat) (a b : Int),
      (0 ≤ a ∧ a ≤ 255 ∧ 0 ≤ b ∧ b ≤ 255 → ∃ w : Word,
        assemble host polls (.cfg a b) = some [.regWrite host .w32 0x0C#6 w] ∧
          (w.toNat : Int) = b * 65536 + a * 256 + 1) ∧
      (¬(0 ≤ a ∧ a ≤ 255 ∧ 0 ≤ b ∧ b ≤ 255) → assemble host polls (.cfg a b) = none)) ∧
    (∀ (host polls : Nat) (x : Int),
      (0 ≤ x ∧ x ≤ 255 → ∃ w v : Word,
        assemble host polls (.encb x) = some [.regWrite host .w32 0x0C#6 w] ∧
          assemble host polls (.decb x) = some [.regWrite host .w32 0x0C#6 v] ∧
          (w.toNat : Int) = x * 256 + 2 ∧ (v.toNat : Int) = x * 256 + 3) ∧
      (¬(0 ≤ x ∧ x ≤ 255) →
        assemble host polls (.encb x) = none ∧ assemble host polls (.decb x) = none))

/-! ### Arithmetic (40_configuration.md R111, R112; 41_byte_transform.md; 42_buffer_transform.md R170) -/

/-- R111: a multiplier is valid exactly when `gcd(a, 256) = 1`, exactly when bit 0 is 1, and reducing an
integer mod 256 does not change the verdict. -/
def Obligations.MultiplierValidIffCoprime : Prop :=
  (∀ a : Byte, (validMultiplier a = true ↔ Nat.gcd a.toNat 256 = 1) ∧
      (validMultiplier a = true ↔ a[0] = true)) ∧
    ∀ a : Int, Int.gcd a 256 = 1 ↔ (a % 256) % 2 = 1

/-- R112: for a valid `a`, `inv(a)` (the closed form of the rule) is the one residue whose product with
`a` is 1 mod 256, and the extended Euclidean algorithm gives the same value. R113: `inv(5) = 205`, and the
multipliers that are their own inverse are 1, 127, 129 and 255. -/
def Obligations.InverseIsTheUniqueResidue : Prop :=
  inverse 5#8 = 205#8 ∧
    ∀ a : Byte, validMultiplier a = true →
      (∀ v : Byte, (a.toNat * v.toNat) % 256 = 1 ↔ v = inverse a) ∧ euclidInverse a = inverse a ∧
        (inverse a = a ↔ a = 1#8 ∨ a = 127#8 ∨ a = 129#8 ∨ a = 255#8)

/-- R140 and R141: `E(x)` is the low 8 bits of the exact value, which fits in 16 bits, and 8-bit
wrap-around arithmetic gives the same byte. -/
def Obligations.EncryptByteExactAndWrapped : Prop :=
  ∀ (c : Cfg) (x : Byte),
    c.a.toNat * x.toNat ≤ 65025 ∧ c.a.toNat * x.toNat + c.b.toNat ≤ 65280 ∧
      (c.encryptByte x).toNat = (c.a.toNat * x.toNat + c.b.toNat) % 256 ∧
      c.encryptByte x = c.a * x + c.b

/-- R143 and R144: `D(y)` is the non-negative residue of the exact value, the offset keeps the difference
in `[1, 511]`, and 8-bit arithmetic gives the same byte. -/
def Obligations.DecryptByteExactAndWrapped : Prop :=
  ∀ (c : Cfg) (y : Byte),
    1 ≤ (y.toNat : Int) - c.b.toNat + 256 ∧ (y.toNat : Int) - c.b.toNat + 256 ≤ 511 ∧
      ((c.decryptByte y).toNat : Int) = ((c.ainv.toNat : Int) * ((y.toNat : Int) - c.b.toNat + 256)) % 256 ∧
      c.decryptByte y = c.ainv * (y - c.b)

/-- R145: for every valid configuration `D(E(x)) = x` and `E(D(y)) = y`. -/
def Obligations.ByteRoundTrip : Prop :=
  ∀ c : Cfg, c.valid = true → c.Consistent →
    (∀ x : Byte, c.decryptByte (c.encryptByte x) = x) ∧ ∀ y : Byte, c.encryptByte (c.decryptByte y) = y

/-- R146: for every valid configuration `E` and `D` are bijections, each the other's inverse, and no
configuration with an even multiplier exists. -/
def Obligations.TransformsAreBijections : Prop :=
  (∀ c : Cfg, c.valid = true → c.Consistent →
      Function.Bijective c.encryptByte ∧ Function.Bijective c.decryptByte ∧
        Function.LeftInverse c.decryptByte c.encryptByte ∧
        Function.LeftInverse c.encryptByte c.decryptByte) ∧
    ∀ (a b : Byte) (s : State), a.toNat % 2 = 0 →
      ∃ t, exec (.cfg a b) s = .next t ∧ t.cfg.valid = false

/-- R170: output byte `i` depends only on input byte `i` and the configuration, and lengths are kept. -/
def Obligations.BufferFunctionsAreBytewise : Prop :=
  ∀ (c : Cfg) (buffer : List Byte),
    (c.encryptBuffer buffer).length = buffer.length ∧ (c.decryptBuffer buffer).length = buffer.length ∧
      ∀ i : Nat, (c.encryptBuffer buffer)[i]? = buffer[i]?.map c.encryptByte ∧
        (c.decryptBuffer buffer)[i]? = buffer[i]?.map c.decryptByte

/-- R171: for every valid configuration a buffer survives the round trip in either order. -/
def Obligations.BufferRoundTrip : Prop :=
  ∀ (c : Cfg) (buffer : List Byte), c.valid = true → c.Consistent →
    c.decryptBuffer (c.encryptBuffer buffer) = buffer ∧
      c.encryptBuffer (c.decryptBuffer buffer) = buffer

/-! ### Commands (40_configuration.md, 41_byte_transform.md, 42_buffer_transform.md) -/

/-- R110: NOP is exactly the word 0; it ends with ERRCODE 0 and changes nothing else; with IE = 1 it raises
`irq`. -/
def Obligations.NopEndsWithSuccess : Prop :=
  (∀ w : Word, decode w = .command .nop ↔ w = 0x00000000#32) ∧
    ∀ s : State, ∃ t, exec .nop s = .next t ∧ t.endedWith .none ∧ t.irq = s.ie ∧
      t.cfg = s.cfg ∧ t.result = s.result ∧ t.count = s.count ∧ t.engOp = s.engOp ∧ CommandFrame s t

/-- R114: the word of `CFG a, b`; with an odd multiplier it latches `(a, b, inv(a))` and leaves RESULT; with
an even one it discards the configuration, zeroes RESULT and reports INVALID_PARAMETERS; while a buffer
command runs it is ignored with OVR; `CFG 1, 0` is the identity and `CFG 255, 0` negates. -/
def Obligations.CfgConstructsOrDiscards : Prop :=
  ∀ a b : Byte,
    (∀ w : Word, decode w = .command (.cfg a b) ↔ w.toNat = b.toNat * 65536 + a.toNat * 256 + 1) ∧
    (∀ s : State,
      (a.toNat % 2 = 1 → ∃ t, exec (.cfg a b) s = .next t ∧ t.endedWith .none ∧
        t.cfg = Cfg.construct a b ∧ t.cfg.a = a ∧ t.cfg.b = b ∧
        (a.toNat * t.cfg.ainv.toNat) % 256 = 1 ∧ t.cfg.valid = true ∧
        t.result = s.result ∧ t.count = s.count ∧ t.engOp = s.engOp ∧ CommandFrame s t) ∧
      (a.toNat % 2 = 0 → ∃ t, exec (.cfg a b) s = .next t ∧ t.endedWith .invalidParameters ∧
        t.cfg.a = 0#8 ∧ t.cfg.b = 0#8 ∧ t.cfg.ainv = 0#8 ∧ t.cfg.valid = false ∧
        t.result = 0#8 ∧ t.count = s.count ∧ t.engOp = s.engOp ∧ CommandFrame s t)) ∧
    (∀ (s : State) (w : Word), decode w = .command (.cfg a b) → s.busy = true → s.writesNext .cmd w →
      ∃ t, step s = .next t ∧ t.ovr = true ∧ SameMachine { s with ovr := true } t) ∧
    (a = 1#8 → b = 0#8 → ∀ x : Byte,
      (Cfg.construct a b).encryptByte x = x ∧ (Cfg.construct a b).decryptByte x = x) ∧
    (a = 255#8 → b = 0#8 → ∀ x : Byte,
      ((Cfg.construct a b).encryptByte x).toNat = (256 - x.toNat) % 256)

/-- R115: CLR is exactly the word 6; it discards the configuration and the last result, configured or not;
while a buffer command runs it is ignored with OVR. -/
def Obligations.ClrDiscards : Prop :=
  (∀ w : Word, decode w = .command .clr ↔ w = 0x00000006#32) ∧
    (∀ s : State, ∃ t, exec .clr s = .next t ∧ t.endedWith .none ∧
      t.cfg.a = 0#8 ∧ t.cfg.b = 0#8 ∧ t.cfg.ainv = 0#8 ∧ t.cfg.valid = false ∧ t.result = 0#8 ∧
      t.count = s.count ∧ t.engOp = s.engOp ∧ CommandFrame s t) ∧
    ∀ s : State, s.busy = true → s.writesNext .cmd 0x00000006#32 →
      ∃ t, step s = .next t ∧ t.ovr = true ∧ SameMachine { s with ovr := true } t

/-- R147: the word of `ENCB x`; it leaves `E(x)` in RESULT, or NOT_CONFIGURED with RESULT unchanged. -/
def Obligations.EncbLeavesEncryptedByte : Prop :=
  ∀ (x : Byte) (s : State),
    (∀ w : Word, decode w = .command (.encb x) ↔ w.toNat = x.toNat * 256 + 2) ∧
    (s.cfg.valid = true → ∃ t, exec (.encb x) s = .next t ∧ t.endedWith .none ∧
      t.result.toNat = (s.cfg.a.toNat * x.toNat + s.cfg.b.toNat) % 256 ∧
      t.cfg = s.cfg ∧ t.count = s.count ∧ t.engOp = s.engOp ∧ CommandFrame s t) ∧
    (s.cfg.valid = false → ∃ t, exec (.encb x) s = .next t ∧ t.endedWith .notConfigured ∧
      t.result = s.result ∧ t.cfg = s.cfg ∧ t.count = s.count ∧ t.engOp = s.engOp ∧ CommandFrame s t)

/-- R148: the word of `DECB y`; it leaves `D(y)` in RESULT, or NOT_CONFIGURED with RESULT unchanged. -/
def Obligations.DecbLeavesDecryptedByte : Prop :=
  ∀ (y : Byte) (s : State),
    (∀ w : Word, decode w = .command (.decb y) ↔ w.toNat = y.toNat * 256 + 3) ∧
    (s.cfg.valid = true → ∃ t, exec (.decb y) s = .next t ∧ t.endedWith .none ∧
      (t.result.toNat : Int) =
        ((s.cfg.ainv.toNat : Int) * ((y.toNat : Int) - s.cfg.b.toNat + 256)) % 256 ∧
      t.cfg = s.cfg ∧ t.count = s.count ∧ t.engOp = s.engOp ∧ CommandFrame s t) ∧
    (s.cfg.valid = false → ∃ t, exec (.decb y) s = .next t ∧ t.endedWith .notConfigured ∧
      t.result = s.result ∧ t.cfg = s.cfg ∧ t.count = s.count ∧ t.engOp = s.engOp ∧ CommandFrame s t)

/-- R173: the checks of ENCBUF and DECBUF come in order, NOT_CONFIGURED before INVALID_RANGE, and a
refused command changes no register but DONE and ERRCODE. The ranges are R172's, summed without wrap. -/
def Obligations.BufferChecksComeInOrder : Prop :=
  ∀ (i : Instr) (s : State), i = .encbuf ∨ i = .decbuf →
    (s.cfg.valid = false → ∃ t, exec i s = .next t ∧ t.endedWith .notConfigured ∧
      t.result = s.result ∧ t.cfg = s.cfg ∧ t.count = s.count ∧ t.engOp = s.engOp ∧ CommandFrame s t) ∧
    (s.cfg.valid = true →
      (2 ^ 32 < s.src.toNat + s.len.toNat ∨ 2 ^ 32 < s.dst.toNat + s.len.toNat ∨
        (s.src.toNat < s.dst.toNat ∧ s.dst.toNat < s.src.toNat + s.len.toNat)) →
      ∃ t, exec i s = .next t ∧ t.endedWith .invalidRange ∧
        t.result = s.result ∧ t.cfg = s.cfg ∧ t.count = s.count ∧ t.engOp = s.engOp ∧ CommandFrame s t)

/-- R174: past its checks a buffer command clears COUNT; with LEN = 0 it completes without a memory
access, and otherwise it starts the engine in its direction. -/
def Obligations.BufferCommandStartsTheEngine : Prop :=
  ∀ (i : Instr) (op : EngOp) (s : State),
    (i = .encbuf ∧ op = .enc) ∨ (i = .decbuf ∧ op = .dec) →
    s.cfg.valid = true →
    s.src.toNat + s.len.toNat ≤ 2 ^ 32 → s.dst.toNat + s.len.toNat ≤ 2 ^ 32 →
    ¬(s.src.toNat < s.dst.toNat ∧ s.dst.toNat < s.src.toNat + s.len.toNat) →
    (s.len = 0#32 → ∃ t, exec i s = .next t ∧ t.endedWith .none ∧ t.count = 0#32 ∧
      t.result = s.result ∧ t.cfg = s.cfg ∧ t.engOp = s.engOp ∧ CommandFrame s t) ∧
    (s.len ≠ 0#32 → s.windowClear = true → ∃ t, exec i s = .next t ∧ t.busy = true ∧
      t.done = s.done ∧ t.errcode = s.errcode ∧ t.count = 0#32 ∧ t.engOp = op ∧
      t.result = s.result ∧ t.cfg = s.cfg ∧ CommandFrame s t)

/-- The one stop of the model: a command is refused exactly when it is a buffer command whose engine
would start on a range that meets the block's own register window (20_memory.md R68). That the refusal
comes after the checks of R173 is the model's choice (log entry 9). -/
def Obligations.OnlyWindowRangesAreRefused : Prop :=
  ∀ (i : Instr) (s : State) (r : Refusal),
    exec i s = .refused r ↔
      (i = .encbuf ∨ i = .decbuf) ∧ s.cfg.valid = true ∧ s.rangeOk = true ∧ r = .rangeInWindow ∧
        ∃ a : Nat, s.plat.regBase ≤ a ∧ a < s.plat.regBase + 64 ∧
          ((s.src.toNat ≤ a ∧ a < s.src.toNat + s.len.toNat) ∨
            (s.dst.toNat ≤ a ∧ a < s.dst.toNat + s.len.toNat))

/-- The frame of every command (60_exceptions.md R202; 20_memory.md R74; 42_buffer_transform.md R176,
R177): inside its CMD write no command changes CTRL, OVR, SRC, DST, LEN, any byte of memory or the bus,
and no command but CFG and CLR changes the configuration. -/
def Obligations.CommandsKeepTheirFrame : Prop :=
  ∀ (i : Instr) (s t : State), exec i s = .next t →
    CommandFrame s t ∧
      ((∀ a b, i ≠ .cfg a b) → i ≠ .clr → t.cfg = s.cfg) ∧
      (i ≠ .encbuf → i ≠ .decbuf → t.count = s.count ∧ t.engOp = s.engOp) ∧
      (i = .nop ∨ i = .encbuf ∨ i = .decbuf → t.result = s.result)

/-- R96: an accepted immediate command begins and ends inside its CMD write, so BUSY stays 0 and DONE is 1
when the write completes; a buffer command either ends there or starts the engine. -/
def Obligations.CommandsEndOrStartInTheWrite : Prop :=
  ∀ (i : Instr) (s t : State), s.acceptsNext i → step s = .next t →
    (i ≠ .encbuf → i ≠ .decbuf → t.busy = false ∧ t.done = true) ∧
      (i = .encbuf ∨ i = .decbuf →
        (t.busy = false ∧ t.done = true) ∨
          (t.busy = true ∧ t.done = false ∧ t.errcode = .none ∧ t.count = 0#32))

/-! ### The register window and the step (10_state.md R22 to R39; 30_encoding.md R95) -/

/-- R95: a step whose host writes a command's word to CMD while BUSY is 0 clears DONE and ERRCODE and then
is `exec` of the decoded command. -/
def Obligations.StepRunsTheDecodedCommand : Prop :=
  ∀ (s : State) (host : Nat) (w : Word) (rest : List Event) (i : Instr),
    s.schedule = .regWrite host .w32 0x0C#6 w :: rest → s.busy = false → decode w = .command i →
    step s = exec i
      { s with schedule := rest, reply := some (host, .ok), done := false, errcode := .none }

/-- A placed command runs in the very next step (log entry 2): `withFetchWord` puts an accepted CMD write
first. -/
def Obligations.PlacedCommandRunsNext : Prop :=
  ∀ (s : State) (i : Instr),
    decodeTableWord 32 (encode i).toNat = some i ∧
      step (s.withFetchWord 32 (encode i).toNat) = exec i
        { s with busy := false, tainted := [], reply := some (0, .ok), done := false, errcode := .none }

/-- R39: while BUSY is 1 a write to CMD, SRC, DST or LEN is ignored and sets OVR, no command is issued, and
writes to CTRL and STATUS and every read are as when BUSY is 0. While BUSY is 0 a write to CMD issues the
word and a write to SRC, DST or LEN is stored. -/
def Obligations.BusyWritesAreLost : Prop :=
  ∀ (s : State) (host : Nat) (v : Word) (rest : List Event),
    (s.busy = true →
      (∀ r : Reg, r = .cmd ∨ r = .src ∨ r = .dst ∨ r = .len →
        s.schedule = .regWrite host .w32 r.offset v :: rest →
        ∃ t, step s = .next t ∧ t.ovr = true ∧ SameMachine { s with ovr := true } t) ∧
      (s.schedule = .regWrite host .w32 0x04#6 v :: rest →
        ∃ t, step s = .next t ∧ t.ie = v[0] ∧ SameMachine { s with ie := v[0] } t) ∧
      (s.schedule = .regWrite host .w32 0x08#6 v :: rest →
        ∃ t, step s = .next t ∧ t.done = (s.done && !v[2]) ∧ t.ovr = (s.ovr && !v[4]) ∧
          SameMachine { s with done := t.done, ovr := t.ovr } t) ∧
      (∀ r : Reg, r ≠ .status → s.readRegister r = { s with busy := false }.readRegister r)) ∧
    (s.busy = false →
      (s.schedule = .regWrite host .w32 0x0C#6 v :: rest →
        step s = issue v { s with schedule := rest, reply := some (host, .ok) }) ∧
      (s.schedule = .regWrite host .w32 0x14#6 v :: rest →
        step s = .next { s with schedule := rest, reply := some (host, .ok), src := v }) ∧
      (s.schedule = .regWrite host .w32 0x18#6 v :: rest →
        step s = .next { s with schedule := rest, reply := some (host, .ok), dst := v }) ∧
      (s.schedule = .regWrite host .w32 0x1C#6 v :: rest →
        step s = .next { s with schedule := rest, reply := some (host, .ok), len := v }))

/-- R22 and R35 to R37: while BUSY is 0 SRC, DST and LEN take any 32-bit value written and read it back. -/
def Obligations.OperandRegistersHoldTheirValue : Prop :=
  ∀ (s : State) (host : Nat) (r : Reg) (v : Word) (rest : List Event),
    s.busy = false → r = .src ∨ r = .dst ∨ r = .len →
    s.schedule = .regWrite host .w32 r.offset v :: rest →
    ∃ t, step s = .next t ∧ t.readRegister r = v ∧
      (∀ q : Reg, q ≠ r → t.readRegister q = s.readRegister q) ∧
      t.cfg = s.cfg ∧ t.engOp = s.engOp ∧ t.mem = s.mem

/-- R23: the access rules common to every offset. An access that is not 32 bits wide at a multiple of 4
gets a bus error and changes nothing; reserved offsets read 0 and ignore writes; writes to ID, RESULT and
COUNT are ignored without error; CMD reads 0; reserved bits read 0 and ignore writes; and no read has a side
effect. -/
def Obligations.WindowAccessRules : Prop :=
  (∀ (s : State) (host : Nat) (width : AccessWidth) (offset : BitVec 6) (v : Word) (rest : List Event)
      (e : Event),
      (e = .regRead host width offset ∨ e = .regWrite host width offset v) → s.schedule = e :: rest →
      (width ≠ .w32 ∨ offset.toNat % 4 ≠ 0) →
      ∃ t, step s = .next t ∧ t.reply = some (host, .busError) ∧ t.schedule = rest ∧ SameMachine s t) ∧
    (∀ (s : State) (host : Nat) (offset : BitVec 6) (v : Word) (rest : List Event),
      offset.toNat % 4 = 0 → 0x24 ≤ offset.toNat →
      (s.schedule = .regRead host .w32 offset :: rest →
        ∃ t, step s = .next t ∧ t.reply = some (host, .word 0#32) ∧ SameMachine s t) ∧
      (s.schedule = .regWrite host .w32 offset v :: rest →
        ∃ t, step s = .next t ∧ t.reply = some (host, .ok) ∧ SameMachine s t)) ∧
    (∀ (s : State) (host : Nat) (r : Reg) (v : Word) (rest : List Event),
      r = .id ∨ r = .result ∨ r = .count → s.schedule = .regWrite host .w32 r.offset v :: rest →
      ∃ t, step s = .next t ∧ t.reply = some (host, .ok) ∧ SameMachine s t) ∧
    (∀ (s : State) (host : Nat) (r : Reg) (rest : List Event),
      s.schedule = .regRead host .w32 r.offset :: rest →
      ∃ t, step s = .next t ∧ t.reply = some (host, .word (s.readRegister r)) ∧ t.schedule = rest ∧
        SameMachine s t) ∧
    (∀ s : State, s.readRegister .cmd = 0#32 ∧ s.readRegister .ctrl &&& 0xFFFFFFFE#32 = 0#32 ∧
      s.readRegister .status &&& 0xFFFFF0E0#32 = 0#32 ∧ s.readRegister .result &&& 0xFFFFFF00#32 = 0#32) ∧
    (∀ (s : State) (v w : Word),
      (v &&& 0x00000001#32 = w &&& 0x00000001#32 → writeRegister .ctrl v s = writeRegister .ctrl w s) ∧
      (v &&& 0x00000F1F#32 = w &&& 0x00000F1F#32 → writeRegister .status v s = writeRegister .status w s))

/-- R24: ID reads 0x41464254 in every state, and a write to it is ignored. -/
def Obligations.IdReadsTheConstant : Prop :=
  ∀ (s : State) (host : Nat) (v : Word) (rest : List Event),
    (s.schedule = .regRead host .w32 0x00#6 :: rest →
      ∃ t, step s = .next t ∧ t.reply = some (host, .word 0x41464254#32) ∧ SameMachine s t) ∧
    (s.schedule = .regWrite host .w32 0x00#6 v :: rest →
      ∃ t, step s = .next t ∧ t.reply = some (host, .ok) ∧ SameMachine s t)

/-- R26: the bits of STATUS, what they read after reset, and what a write of `w` to it does. -/
def Obligations.StatusLayoutAndWrite : Prop :=
  State.reset.readRegister .status = 0#32 ∧
  (∀ s : State,
      (s.readRegister .status)[0] = s.busy ∧ (s.readRegister .status)[1] = s.cfg.valid ∧
        (s.readRegister .status)[2] = s.done ∧
        ((s.readRegister .status)[3] = true ↔ s.errcode ≠ .none) ∧
        (s.readRegister .status)[4] = s.ovr ∧
        (s.readRegister .status).extractLsb' 5 3 = 0#3 ∧
        (s.readRegister .status).extractLsb' 8 4 = s.errcode.code ∧
        (s.readRegister .status).extractLsb' 12 20 = 0#20) ∧
    (∀ (s : State) (w : Word), s.writesNext .status w → ∃ t, step s = .next t ∧
      t.done = (if w[2] then false else s.done) ∧ t.ovr = (if w[4] then false else s.ovr) ∧
      SameMachine { s with done := t.done, ovr := t.ovr } t)

/-- R30: ERR reads 1 exactly when ERRCODE is not 0, and writing the bit changes nothing. -/
def Obligations.ErrBitIsDerived : Prop :=
  (∀ s : State, (s.readRegister .status)[3] = true ↔
      (s.readRegister .status).extractLsb' 8 4 ≠ 0#4) ∧
    ∀ (s : State) (w : Word), s.acknowledge (w ||| 0x00000008#32) = s.acknowledge w ∧
      s.acknowledge (w &&& 0xFFFFFFF7#32) = s.acknowledge w

/-- R44 and R205: `irq` is IE and DONE; it falls when the host writes 1 to STATUS bit 2; clearing IE masks
it without clearing DONE; setting IE shows a DONE that waits. -/
def Obligations.IrqFollowsEnableAndDone : Prop :=
  (∀ s : State, s.irq = true ↔ (s.readRegister .ctrl)[0] = true ∧ (s.readRegister .status)[2] = true) ∧
    (∀ (s : State) (w : Word), w[2] = true → s.writesNext .status w →
      ∃ t, step s = .next t ∧ t.irq = false) ∧
    (∀ (s : State) (w : Word), s.writesNext .ctrl w →
      ∃ t, step s = .next t ∧ t.irq = (w[0] && s.done) ∧ t.done = s.done)

/-! ### What changes what (whole-machine rules of 10_state.md) -/

/-- R25: CTRL is IE alone; a write to it takes effect at once, also while BUSY is 1; and it is never changed
by any command, only by host writes and reset. -/
def Obligations.CtrlChangesOnlyByHostOrReset : Prop :=
  (∀ s : State, (s.readRegister .ctrl)[0] = s.ie ∧ (s.readRegister .ctrl).extractLsb' 1 31 = 0#31 ∧
      (s.ie = true → s.irq = s.done)) ∧
    (∀ (s : State) (v : Word), s.writesNext .ctrl v →
      ∃ t, step s = .next t ∧ t.ie = v[0] ∧ SameMachine { s with ie := v[0] } t) ∧
    ∀ s t : State, step s = .next t →
      (t.ie ≠ s.ie → (∃ v, s.writesNext .ctrl v) ∨ s.resetsNext) ∧ (s.resetsNext → t.ie = false)

/-- R28: CONFIGURED is `cfg.VALID`; it becomes 1 only by a successful CFG, and becomes 0 by a failing CFG, by
CLR and by reset, and by nothing else. -/
def Obligations.ConfiguredChangesOnlyByCfgClrReset : Prop :=
  ∀ s t : State, step s = .next t →
    (s.cfg.valid = false → t.cfg.valid = true → ∃ a b, s.acceptsNext (.cfg a b) ∧ a.toNat % 2 = 1) ∧
      (s.cfg.valid = true → t.cfg.valid = false →
        (∃ a b, s.acceptsNext (.cfg a b) ∧ a.toNat % 2 = 0) ∨ s.acceptsNext .clr ∨ s.resetsNext) ∧
      (∀ a b, s.acceptsNext (.cfg a b) → (t.cfg.valid = true ↔ a.toNat % 2 = 1)) ∧
      (s.acceptsNext .clr ∨ s.resetsNext → t.cfg.valid = false) ∧
      (t.readRegister .status)[1] = t.cfg.valid

/-- R29: DONE is 0 while an accepted command runs and 1 when it has ended, also with an error; it is cleared
by a host's 1 in bit 2 of STATUS, by the next accepted command and by reset, and by nothing else; a CMD write
ignored because BUSY is 1 leaves it. -/
def Obligations.DoneIsClearedOnlyBy : Prop :=
  ∀ s t : State, step s = .next t →
    (s.done = true → t.done = false →
      (∃ v, s.writesNext .status v ∧ v[2] = true) ∨ (∃ i, s.acceptsNext i) ∨ s.resetsNext) ∧
      ((∃ v, s.writesNext .status v ∧ v[2] = true) ∨ s.resetsNext → t.done = false) ∧
      (∀ w, s.busy = false → s.writesNext .cmd w → t.done = !t.busy) ∧
      (s.busy = true → t.busy = false → ¬s.resetsNext → t.done = true) ∧
      (∀ v, s.busy = true → s.writesNext .cmd v → t.done = s.done)

/-- R31: OVR is set by a write to CMD, SRC, DST or LEN while BUSY is 1 and by nothing else, and it stays
until a host writes 1 to bit 4 of STATUS or reset. -/
def Obligations.OvrIsSetAndClearedOnlyBy : Prop :=
  ∀ s t : State, step s = .next t →
    (s.ovr = false →
      (t.ovr = true ↔ s.busy = true ∧
        ∃ r v, (r = .cmd ∨ r = .src ∨ r = .dst ∨ r = .len) ∧ s.writesNext r v)) ∧
      (s.ovr = true →
        (t.ovr = false ↔ (∃ v, s.writesNext .status v ∧ v[4] = true) ∨ s.resetsNext))

/-- R34: RESULT reads as its byte alone, and is written only by a successful ENCB or DECB, CLR, a failing
CFG, and reset. -/
def Obligations.ResultChangesOnlyBy : Prop :=
  ∀ s t : State, (s.readRegister .result).toNat = s.result.toNat ∧ (step s = .next t → t.result ≠ s.result →
    (∃ x, s.acceptsNext (.encb x) ∧ s.cfg.valid = true ∧ t.result = s.cfg.encryptByte x) ∨
      (∃ y, s.acceptsNext (.decb y) ∧ s.cfg.valid = true ∧ t.result = s.cfg.decryptByte y) ∨
      (s.acceptsNext .clr ∧ t.result = 0#8) ∨
      (∃ a b, s.acceptsNext (.cfg a b) ∧ a.toNat % 2 = 0 ∧ t.result = 0#8) ∨
      (s.resetsNext ∧ t.result = 0#8))

/-- R32: ERRCODE changes only when a command is accepted, when the engine ends one, and at reset; it reads 0
after the write that starts a buffer command; and no code above 6 is produced. -/
def Obligations.ErrcodeChangesOnlyBy : Prop :=
  ∀ s t : State, step s = .next t →
    (t.errcode ≠ s.errcode →
      (s.busy = false ∧ ∃ w, s.writesNext .cmd w) ∨ (s.enginesNext ∧ s.busy = true ∧ t.busy = false) ∨
        (s.resetsNext ∧ t.errcode = .none)) ∧
      (s.busy = false → t.busy = true → t.errcode = .none) ∧
      ((t.readRegister .status).extractLsb' 8 4).toNat ≤ 6

/-- R38: COUNT changes only when a buffer command passes its checks (to 0), when the engine completes the
write of one byte (by 1), and at reset. -/
def Obligations.CountChangesOnlyBy : Prop :=
  ∀ s t : State, step s = .next t → t.count ≠ s.count →
    ((s.acceptsNext .encbuf ∨ s.acceptsNext .decbuf) ∧ t.count = 0#32) ∨
      (s.enginesNext ∧ s.busy = true ∧ s.plat.answer s.writeAddr .write = .ok ∧
        t.count = s.count + 1#32) ∨
      (s.resetsNext ∧ t.count = 0#32)

/-- R27: BUSY becomes 1 only in the CMD write that starts a buffer command, and becomes 0 only when the
engine ends that command or by reset; no host access writes it. Until then no host access changes the
command's operands, its direction or its configuration (R39, R180). -/
def Obligations.RunningCommandIsNotInterrupted : Prop :=
  ∀ s t : State, step s = .next t →
    (s.busy = false → t.busy = true →
      (s.acceptsNext .encbuf ∨ s.acceptsNext .decbuf) ∧ t.done = false ∧ t.count = 0#32) ∧
    (s.busy = true → ¬s.resetsNext →
      t.src = s.src ∧ t.dst = s.dst ∧ t.len = s.len ∧ t.cfg = s.cfg ∧ t.engOp = s.engOp ∧
        (¬s.enginesNext → t.busy = true ∧ t.count = s.count) ∧
        (t.busy = false → t.done = true ∧
          ((t.errcode = .none ∧ t.count = s.len) ∨
            (t.errcode = .busErrorRead ∧ s.plat.answer s.readAddr .read = .busError) ∨
            (t.errcode = .busErrorWrite ∧ s.plat.answer s.writeAddr .write = .busError)))) ∧
    (s.resetsNext → t.busy = false)

/-- What the block may not do (60_exceptions.md R215; 20_memory.md R66, R70): every engine access is made
by an engine step while BUSY is 1, at `SRC + COUNT` or `DST + COUNT`, inside the ranges. -/
def Obligations.EngineAccessesStayInRange : Prop :=
  ∀ s t : State, s.Inv → step s = .next t → t.busLog ≠ s.busLog →
    s.enginesNext ∧ s.busy = true ∧
      ∃ added, t.busLog = added ++ s.busLog ∧
        ∀ x ∈ added, (x.kind = .read ∧ x.addr.toNat = s.src.toNat + s.count.toNat ∧
            s.inSource x.addr = true) ∨
          (x.kind = .write ∧ x.addr.toNat = s.dst.toNat + s.count.toNat ∧ s.inDest x.addr = true)

/-- A byte of memory changes only by a host's own write to it, by a running command to its destination
range, or by a reset of a running command in its destination range (20_memory.md R66, R73;
70_reset_and_hazards.md R241). -/
def Obligations.MemoryChangesOnlyBy : Prop :=
  ∀ (s t : State) (a : Word), s.Inv → step s = .next t →
    t.mem.read a.toNat ≠ s.mem.read a.toNat →
    (∃ host cached v rest, s.schedule = .memWrite host cached a v :: rest) ∨
      (s.busy = true ∧ s.inDest a = true ∧ (s.enginesNext ∨ s.resetsNext))

/-- R41: no register read returns the key, and only ENCB, DECB and the engine's steps depend on it: in every
other step two machines that differ in `cfg.A`, `cfg.B` and `cfg.AINV` alone do the same. -/
def Obligations.KeyIsSeenOnlyThroughTransforms : Prop :=
  ∀ (s t : State) (c : Cfg), c.valid = s.cfg.valid →
    (∀ r : Reg, { s with cfg := c }.readRegister r = s.readRegister r) ∧
      (¬(s.busy = true ∧ s.enginesNext) → (∀ x, ¬s.acceptsNext (.encb x)) → (∀ y, ¬s.acceptsNext (.decb y)) →
        step s = .next t →
        ∃ c', c'.valid = t.cfg.valid ∧ step { s with cfg := c } = .next { t with cfg := c' })

/-- R212: the block has no host identifier, so which host made a window access matters to nothing but who
gets the reply. -/
def Obligations.HostNumberDoesNotMatter : Prop :=
  ∀ (s t : State) (h k : Nat) (width : AccessWidth) (offset : BitVec 6) (v : Word) (rest : List Event),
    (s.schedule = .regWrite h width offset v :: rest → step s = .next t →
      ∃ r, t.reply = some (h, r) ∧
        step { s with schedule := .regWrite k width offset v :: rest } =
          .next { t with reply := some (k, r) }) ∧
    (s.schedule = .regRead h width offset :: rest → step s = .next t →
      ∃ r, t.reply = some (h, r) ∧
        step { s with schedule := .regRead k width offset :: rest } =
          .next { t with reply := some (k, r) })

/-! ### The engine (42_buffer_transform.md R175 to R181) -/

/-- R175 and R70: when both accesses of index `i = COUNT` complete, the engine reads `SRC + i`, then writes
the transformed byte at `DST + i`, then COUNT is `i + 1`; the command completes exactly at LEN. No other
byte changes but a raced one. -/
def Obligations.EngineStepMovesOneByte : Prop :=
  ∀ s : State, s.Inv → s.busy = true →
    s.plat.answer s.readAddr .read = .ok → s.plat.answer s.writeAddr .write = .ok →
    (engineStep s).count.toNat = s.count.toNat + 1 ∧
      (engineStep s).busLog = ⟨.write, s.writeAddr⟩ :: ⟨.read, s.readAddr⟩ :: s.busLog ∧
      s.readAddr.toNat = s.src.toNat + s.count.toNat ∧ s.writeAddr.toNat = s.dst.toNat + s.count.toNat ∧
      (s.count.toNat + 1 = s.len.toNat → (engineStep s).endedWith .none) ∧
      (s.count.toNat + 1 ≠ s.len.toNat → (engineStep s).busy = true ∧ (engineStep s).done = false ∧
        (engineStep s).errcode = .none) ∧
      (s.writeAddr ∉ s.tainted → (engineStep s).mem.read s.writeAddr.toNat =
        (if s.engOp = .enc then s.cfg.encryptByte (s.mem.read s.readAddr.toNat)
          else s.cfg.decryptByte (s.mem.read s.readAddr.toNat))) ∧
      (∀ a : Word, a ≠ s.writeAddr → a ∉ s.tainted →
        (engineStep s).mem.read a.toNat = s.mem.read a.toNat) ∧
      (engineStep s).cfg = s.cfg ∧ (engineStep s).result = s.result ∧ (engineStep s).ie = s.ie ∧
      (engineStep s).ovr = s.ovr ∧ (engineStep s).src = s.src ∧ (engineStep s).dst = s.dst ∧
      (engineStep s).len = s.len

/-- R175 and 20_memory.md R61: a read error ends the command with code 5, COUNT stays, and no byte changes
but a raced one; a write error ends it with code 6, COUNT stays, and the byte at `DST + COUNT` becomes a
free value of the model. -/
def Obligations.BusErrorsEndTheCommand : Prop :=
  ∀ s : State, s.Inv → s.busy = true →
    (s.plat.answer s.readAddr .read = .busError →
      (engineStep s).endedWith .busErrorRead ∧ (engineStep s).count = s.count ∧
        (∀ a : Word, a ∉ s.tainted → (engineStep s).mem.read a.toNat = s.mem.read a.toNat) ∧
        (engineStep s).cfg = s.cfg ∧ (engineStep s).result = s.result ∧ (engineStep s).ie = s.ie ∧
        (engineStep s).ovr = s.ovr ∧ (engineStep s).src = s.src ∧ (engineStep s).dst = s.dst ∧
        (engineStep s).len = s.len) ∧
    (s.plat.answer s.readAddr .read = .ok → s.plat.answer s.writeAddr .write = .busError →
      (engineStep s).endedWith .busErrorWrite ∧ (engineStep s).count = s.count ∧
        (∃ n, s.draws ≤ n ∧ (engineStep s).mem.read s.writeAddr.toNat = Config.freeByte n) ∧
        (∀ a : Word, a ≠ s.writeAddr → a ∉ s.tainted →
          (engineStep s).mem.read a.toNat = s.mem.read a.toNat) ∧
        (engineStep s).cfg = s.cfg ∧ (engineStep s).result = s.result ∧ (engineStep s).ie = s.ie ∧
        (engineStep s).ovr = s.ovr ∧ (engineStep s).src = s.src ∧ (engineStep s).dst = s.dst ∧
        (engineStep s).len = s.len)

/-- R178, with R181 and R245: from a quiescent configured state, ENCBUF or DECBUF of `n = LEN` bytes whose
accesses all complete ends after exactly `n` engine steps, not before, with ERRCODE 0 and COUNT = LEN;
every destination byte is then `E` or `D` of the source byte as it was at the start, and no other byte has
changed. -/
def Obligations.BufferCommandTransformsItsRange : Prop :=
  ∀ (i : Instr) (op : EngOp) (s : State),
    (i = .encbuf ∧ op = .enc) ∨ (i = .decbuf ∧ op = .dec) →
    s.Inv → s.busy = false → s.schedule = [] → s.cfg.valid = true → s.rangeOk = true →
    s.len ≠ 0#32 → s.windowClear = true → s.AccessesOk 0 s.len.toNat →
    ∃ t0 t, exec i s.accept = .next t0 ∧ steps s.len.toNat t0 = .next t ∧
      t.endedWith .none ∧ t.count = s.len ∧
      (∀ k : Nat, k < s.len.toNat → t.mem.read (s.dst.toNat + k) =
        (if op = .enc then s.cfg.encryptByte (s.mem.read (s.src.toNat + k))
          else s.cfg.decryptByte (s.mem.read (s.src.toNat + k)))) ∧
      (∀ a : Nat, ¬(s.dst.toNat ≤ a ∧ a < s.dst.toNat + s.len.toNat) →
        t.mem.read a = s.mem.read a) ∧
      (∀ k : Nat, k < s.len.toNat → ∃ u, steps k t0 = .next u ∧ u.busy = true ∧ u.done = false ∧
        u.count.toNat = k)

/-- R179: when the first failing access is at index `k`, the command ends after `k + 1` engine steps with
COUNT = k, the destination bytes below `k` transformed, those above `k` unchanged, and the byte at `k`
unchanged after a read error. -/
def Obligations.BusErrorLeavesAPrefix : Prop :=
  ∀ (i : Instr) (op : EngOp) (s : State) (k : Nat) (e : ErrCode),
    (i = .encbuf ∧ op = .enc) ∨ (i = .decbuf ∧ op = .dec) →
    s.Inv → s.busy = false → s.schedule = [] → s.cfg.valid = true → s.rangeOk = true →
    k < s.len.toNat → s.windowClear = true → s.AccessesOk 0 k →
    (s.plat.answer (s.src + BitVec.ofNat 32 k) .read = .busError ∧ e = .busErrorRead) ∨
      (s.plat.answer (s.src + BitVec.ofNat 32 k) .read = .ok ∧
        s.plat.answer (s.dst + BitVec.ofNat 32 k) .write = .busError ∧ e = .busErrorWrite) →
    ∃ t0 t, exec i s.accept = .next t0 ∧ steps (k + 1) t0 = .next t ∧
      t.endedWith e ∧ t.count.toNat = k ∧
      (∀ j : Nat, j < k → t.mem.read (s.dst.toNat + j) =
        (if op = .enc then s.cfg.encryptByte (s.mem.read (s.src.toNat + j))
          else s.cfg.decryptByte (s.mem.read (s.src.toNat + j)))) ∧
      (∀ j : Nat, k < j → j < s.len.toNat →
        t.mem.read (s.dst.toNat + j) = s.mem.read (s.dst.toNat + j)) ∧
      (e = .busErrorRead → t.mem.read (s.dst.toNat + k) = s.mem.read (s.dst.toNat + k))

/-- R246 and R181: with nothing scheduled, a quiescent block stays as it is for any number of steps, and so
does a block whose engine waits for an access that is never answered, BUSY at 1. The blocking answer is the
platform parameter R181 lets a model add (log entry 8). -/
def Obligations.QuiescentOrStuckBlockStays : Prop :=
  ∀ (s : State) (n : Nat), s.schedule = [] →
    (s.busy = false → steps n s = .next s) ∧
      (s.busy = true →
        (s.plat.answer s.readAddr .read = .silent ∨
          (s.plat.answer s.readAddr .read = .ok ∧ s.plat.answer s.writeAddr .write = .silent)) →
        steps n s = .next s)

/-- What the model makes of the races of 20_memory.md R73: while a command runs, a host read of a destination
byte gives the next free value; a host write to a source byte marks the destination byte of its index, and one
to a destination byte marks that byte; a mark stays until the command ends; and each marked byte is a free
value at that end, with or without an error. The marks, their lasting to the end, and the draw at an end with
an error are the model's own reading of R73 (log entry 11, DEDUCED). A host read or write outside both ranges
races with nothing; that it is one byte, always answered, is the model's choice (log entry 13, DESIGN CHOICE). -/
def Obligations.RacedBytesBecomeDraws : Prop :=
  (∀ (s : State) (host : Nat) (cached : Bool) (a : Word) (rest : List Event), s.busy = true →
      s.plat.inWindow a.toNat = false → s.schedule = .memRead host cached a :: rest →
      (s.inDest a = true →
        ∃ t, step s = .next t ∧ t.reply = some (host, .byte (Config.freeByte s.draws)) ∧
          t.draws = s.draws + 1 ∧ t.mem = s.mem) ∧
      (s.inSource a = false → s.inDest a = false → cached = false →
        ∃ t, step s = .next t ∧ t.reply = some (host, .byte (s.mem.read a.toNat)) ∧ SameMachine s t)) ∧
    (∀ (s : State) (host : Nat) (cached : Bool) (a : Word) (v : Byte) (rest : List Event), s.busy = true →
      s.plat.inWindow a.toNat = false → s.schedule = .memWrite host cached a v :: rest →
      ∃ t, step s = .next t ∧
        (s.inSource a = true → s.dst + (a - s.src) ∈ t.tainted) ∧
        (s.inDest a = true → a ∈ t.tainted) ∧
        (s.inSource a = false → s.inDest a = false → t.tainted = s.tainted)) ∧
    (∀ s t : State, s.busy = true → t.busy = true → step s = .next t → ∀ a ∈ s.tainted, a ∈ t.tainted) ∧
    (∀ (s : State) (a : Word), s.Inv → s.busy = true → (engineStep s).busy = false →
      a ∈ s.tainted → ∃ n, s.draws ≤ n ∧ (engineStep s).mem.read a.toNat = Config.freeByte n)

/-- Between the start and the end of a command, whatever orderly accesses hosts make in between: the bytes
below COUNT are transformed from the source as it was at the start, and the source bytes not yet read are as
they were (the step of R178's argument, over every interleaving without a race or reset). -/
def Obligations.ProgressSurvivesOrderlySteps : Prop :=
  ∀ (m0 : Memory) (s t : State), s.Inv → s.busy = true → s.tainted = [] → s.orderly = true →
    ¬s.resetsNext → step s = .next t →
    (∀ k : Nat, k < s.count.toNat → s.mem.read (s.dst.toNat + k) =
      s.cfg.transform s.engOp (m0.read (s.src.toNat + k))) →
    (∀ k : Nat, s.count.toNat ≤ k → k < s.len.toNat →
      s.mem.read (s.src.toNat + k) = m0.read (s.src.toNat + k)) →
    t.errcode = .none →
    t.tainted = [] ∧
      (∀ k : Nat, k < t.count.toNat → t.mem.read (t.dst.toNat + k) =
        t.cfg.transform t.engOp (m0.read (t.src.toNat + k))) ∧
      (∀ k : Nat, t.count.toNat ≤ k → k < t.len.toNat →
        t.mem.read (t.src.toNat + k) = m0.read (t.src.toNat + k))

/-! ### Host memory (the model's choices: log entries 10, 13 and 15) -/

/-- The model's choice, and no rule of the spec: while BUSY is 0, a host's uncached write of a byte outside
the register window is read back by the next uncached read, and every other byte reads as before. It rests on
a host's own access being one byte that is always answered (log entry 13), on memory without side effects of
its own (log entry 15), and on an uncached access acting on memory at once (log entry 10), each a DESIGN
CHOICE; the spec leaves the host's own memory model OPEN (92_eei_decisions.md D37). -/
def Obligations.HostMemoryReadAfterWrite : Prop :=
  ∀ (s : State) (h k : Nat) (a b : Word) (v : Byte) (rest : List Event), s.Inv → s.busy = false →
    s.plat.inWindow a.toNat = false → s.plat.inWindow b.toNat = false →
    s.schedule = .memWrite h false a v :: .memRead k false b :: rest →
    ∃ t u, step s = .next t ∧ step t = .next u ∧
      u.reply = some (k, .byte (if b = a then v else s.mem.read b.toNat)) ∧ SameBlock s u

/-! ### Reset (10_state.md R46; 70_reset_and_hazards.md R240, R241) -/

/-- R240 and R46: a reset sets every register to its reset value, `irq` to 0, ends a running command without
an outcome, and makes no memory access; where no command runs it leaves host memory as it is. The value of
`eng.OP`, which R46 leaves unspecified, is not stated. -/
def Obligations.ResetSetsEveryRegister : Prop :=
  ∀ s : State, s.resetsNext → ∃ t, step s = .next t ∧
    t.cfg.valid = false ∧ t.cfg.a = 0#8 ∧ t.cfg.b = 0#8 ∧ t.cfg.ainv = 0#8 ∧
    t.readRegister .ctrl = 0#32 ∧ t.readRegister .status = 0#32 ∧ t.readRegister .result = 0#32 ∧
    t.readRegister .src = 0#32 ∧ t.readRegister .dst = 0#32 ∧ t.readRegister .len = 0#32 ∧
    t.readRegister .count = 0#32 ∧ t.readRegister .id = 0x41464254#32 ∧ t.irq = false ∧
    t.busLog = s.busLog ∧ t.plat = s.plat ∧ (s.busy = false → t.mem = s.mem)

/-- R241: a reset that interrupts a buffer command leaves every byte of its destination range a free value
and every other byte unchanged, and COUNT at 0; a reset of a quiescent block changes no byte. -/
def Obligations.ResetDrawsTheInterruptedRange : Prop :=
  ∀ s t : State, s.Inv → s.resetsNext → step s = .next t →
    (s.busy = true → ∀ a : Word,
      (s.inDest a = true → ∃ n, s.draws ≤ n ∧ n < t.draws ∧ t.mem.read a.toNat = Config.freeByte n) ∧
        (s.inDest a = false → t.mem.read a.toNat = s.mem.read a.toNat)) ∧
      t.count = 0#32 ∧ (s.busy = false → t.mem = s.mem)

/-- R46: the state after reset, field by field, with the values the spec gives. -/
def Obligations.ResetStateHasTheListedValues : Prop :=
  State.reset.ie = false ∧ State.reset.busy = false ∧ State.reset.done = false ∧
    State.reset.ovr = false ∧ State.reset.errcode = .none ∧ State.reset.result = 0#8 ∧
    State.reset.src = 0#32 ∧ State.reset.dst = 0#32 ∧ State.reset.len = 0#32 ∧
    State.reset.count = 0#32 ∧ State.reset.cfg = ⟨0#8, 0#8, 0#8, false⟩ ∧
    State.reset.irq = false ∧ State.reset.err = false ∧
    State.reset.readRegister .id = 0x41464254#32 ∧ State.reset.readRegister .status = 0#32

/-! ### Invariants -/

/-- R42: every step keeps the configuration invariant, from every state that has it. -/
def Obligations.ConfigurationInvariantKept : Prop :=
  ∀ s t : State,
    ((s.cfg.valid = true → s.cfg.a.toNat % 2 = 1 ∧ (s.cfg.a.toNat * s.cfg.ainv.toNat) % 256 = 1) ∧
      (s.cfg.valid = false → s.cfg.a = 0#8 ∧ s.cfg.b = 0#8 ∧ s.cfg.ainv = 0#8)) →
    step s = .next t →
    (t.cfg.valid = true → t.cfg.a.toNat % 2 = 1 ∧ (t.cfg.a.toNat * t.cfg.ainv.toNat) % 256 = 1) ∧
      (t.cfg.valid = false → t.cfg.a = 0#8 ∧ t.cfg.b = 0#8 ∧ t.cfg.ainv = 0#8)

/-- Every step keeps the machine's invariant: the configuration is consistent (R42); a running command is
configured, unreported, below LEN, inside checked ranges clear of the window (R173 to R175); races are open
only for its destination bytes (20_memory.md R73); and memory is canonical. -/
def Obligations.EveryStepKeepsTheInvariant : Prop :=
  ∀ s t : State, s.Inv → step s = .next t → t.Inv

/-- The invariant holds right after reset. -/
def Obligations.InvariantHoldsAtReset : Prop := State.reset.Inv
end

