-- ==== Sys2Proof/Laws/Memory.lean ====
section
/-! SUPPORT. What the memory operations do, said once: reads after writes, the canonical form, draws. -/

namespace Sys2Proof.Machine

theorem Memory.read_of_wfFrom {m : Memory} {lo a : Nat} (h : m.wfFrom lo = true) (ha : a < lo) :
    m.read a = Config.unlistedByte := by
  induction m generalizing lo with
  | nil => rfl
  | cons c m ih =>
    obtain ⟨k, v⟩ := c
    simp only [Memory.wfFrom, Bool.and_eq_true, decide_eq_true_eq] at h
    have hk : k ≠ a := by omega
    simp only [Memory.read, if_neg hk]
    exact ih h.2 (by omega)

theorem Memory.wfFrom_mono {m : Memory} {lo lo' : Nat} (h : m.wfFrom lo = true) (hl : lo' ≤ lo) :
    m.wfFrom lo' = true := by
  cases m with
  | nil => rfl
  | cons c m =>
    obtain ⟨k, v⟩ := c
    simp only [Memory.wfFrom, Bool.and_eq_true, decide_eq_true_eq] at h ⊢
    exact ⟨⟨⟨by omega, h.1.1.2⟩, h.1.2⟩, h.2⟩

theorem Memory.read_write_same_from {m : Memory} {lo : Nat} (h : m.wfFrom lo = true) (a : Nat) (v : Byte) :
    (m.write a v).read a = v := by
  induction m generalizing lo with
  | nil =>
    by_cases hv : v = Config.unlistedByte <;> simp [Memory.write, Memory.read, hv]
  | cons c m ih =>
    obtain ⟨k, w⟩ := c
    simp only [Memory.wfFrom, Bool.and_eq_true, decide_eq_true_eq] at h
    rcases lt_trichotomy a k with hak | hak | hak
    · by_cases hv : v = Config.unlistedByte
      · have hne : k ≠ a := by omega
        simp only [Memory.write, if_pos hak, if_pos hv, Memory.read, if_neg hne]
        rw [hv]; exact read_of_wfFrom h.2 (by omega)
      · simp [Memory.write, hak, hv, Memory.read]
    · subst hak
      by_cases hv : v = Config.unlistedByte
      · simp only [Memory.write, lt_irrefl, if_false, if_true, if_pos hv]
        rw [hv]; exact read_of_wfFrom h.2 (by omega)
      · simp [Memory.write, hv, Memory.read]
    · have h1 : ¬ a < k := by omega
      have h2 : ¬ a = k := by omega
      have h3 : ¬ k = a := by omega
      simp only [Memory.write, if_neg h1, if_neg h2, Memory.read, if_neg h3]
      exact ih h.2

/-- A read of the byte just written gives the value written. -/
theorem Memory.read_write_same {m : Memory} (h : m.wf = true) (a : Nat) (v : Byte) :
    (m.write a v).read a = v := read_write_same_from h a v

/-- A write leaves every other byte alone. -/
theorem Memory.read_write_other (m : Memory) {a b : Nat} (v : Byte) (hab : b ≠ a) :
    (m.write a v).read b = m.read b := by
  induction m with
  | nil =>
    by_cases hv : v = Config.unlistedByte <;> simp [Memory.write, Memory.read, hv, Ne.symm hab]
  | cons c m ih =>
    obtain ⟨k, w⟩ := c
    rcases lt_trichotomy a k with hak | hak | hak
    · by_cases hv : v = Config.unlistedByte <;>
        simp [Memory.write, hak, hv, Memory.read, Ne.symm hab]
    · subst hak
      by_cases hv : v = Config.unlistedByte <;>
        simp [Memory.write, hv, Memory.read, Ne.symm hab]
    · have h1 : ¬ a < k := by omega
      have h2 : ¬ a = k := by omega
      simp only [Memory.write, if_neg h1, if_neg h2, Memory.read, ih]

theorem Memory.wfFrom_write {m : Memory} {lo a : Nat} (h : m.wfFrom lo = true) (v : Byte) (hlo : lo ≤ a)
    (ha : a < Config.addressSpace) : (m.write a v).wfFrom lo = true := by
  induction m generalizing lo with
  | nil =>
    by_cases hv : v = Config.unlistedByte <;> simp [Memory.write, Memory.wfFrom, hv, hlo, ha]
  | cons c m ih =>
    obtain ⟨k, w⟩ := c
    simp only [Memory.wfFrom, Bool.and_eq_true, decide_eq_true_eq] at h
    rcases lt_trichotomy a k with hak | hak | hak
    · by_cases hv : v = Config.unlistedByte
      · simp only [Memory.write, if_pos hak, if_pos hv, Memory.wfFrom, Bool.and_eq_true,
          decide_eq_true_eq]
        exact h
      · simp only [Memory.write, if_pos hak, if_neg hv, Memory.wfFrom, Bool.and_eq_true,
          decide_eq_true_eq]
        exact ⟨⟨⟨hlo, ha⟩, hv⟩, ⟨⟨⟨by omega, h.1.1.2⟩, h.1.2⟩, h.2⟩⟩
    · subst hak
      by_cases hv : v = Config.unlistedByte
      · simp only [Memory.write, lt_irrefl, if_false, if_true, if_pos hv]
        exact wfFrom_mono h.2 (by omega)
      · simp only [Memory.write, lt_irrefl, if_false, if_true, if_neg hv, Memory.wfFrom,
          Bool.and_eq_true, decide_eq_true_eq]
        exact ⟨⟨⟨hlo, ha⟩, hv⟩, h.2⟩
    · have h1 : ¬ a < k := by omega
      have h2 : ¬ a = k := by omega
      simp only [Memory.write, if_neg h1, if_neg h2, Memory.wfFrom, Bool.and_eq_true,
        decide_eq_true_eq]
      exact ⟨h.1, ih h.2 (by omega)⟩

/-- A write of a byte inside the address space keeps the canonical form. -/
theorem Memory.wf_write {m : Memory} {a : Nat} (h : m.wf = true) (v : Byte)
    (ha : a < Config.addressSpace) : (m.write a v).wf = true := wfFrom_write h v (by omega) ha

theorem word_in_addressSpace (a : Word) : a.toNat < Config.addressSpace := a.isLt

/-- Draws keep the canonical form. -/
theorem Memory.wf_drawAll {m : Memory} (h : m.wf = true) (k : Nat) (addrs : List Word) :
    (m.drawAll k addrs).wf = true := by
  induction addrs generalizing m k with
  | nil => exact h
  | cons a rest ih => exact ih (wf_write h _ (word_in_addressSpace a)) _

/-- Draws leave every byte not listed alone. -/
theorem Memory.read_drawAll_other (m : Memory) (k : Nat) (addrs : List Word) {b : Nat}
    (hb : ∀ a ∈ addrs, b ≠ a.toNat) : (m.drawAll k addrs).read b = m.read b := by
  induction addrs generalizing m k with
  | nil => rfl
  | cons a rest ih =>
    rw [Memory.drawAll, ih _ _ fun c hc => hb c (List.mem_cons_of_mem _ hc)]
    exact read_write_other m _ (hb a List.mem_cons_self)

/-- Every listed byte is some free value of the run after its draws. -/
theorem Memory.read_drawAll_mem {m : Memory} (h : m.wf = true) (k : Nat) (addrs : List Word) {a : Word}
    (ha : a ∈ addrs) :
    ∃ n, k ≤ n ∧ n < k + addrs.length ∧ (m.drawAll k addrs).read a.toNat = Config.freeByte n := by
  induction addrs generalizing m k with
  | nil => cases ha
  | cons c rest ih =>
    have hw := wf_write h (Config.freeByte k) (word_in_addressSpace c)
    by_cases hr : a ∈ rest
    · obtain ⟨n, h1, h2, h3⟩ := ih hw (k + 1) hr
      exact ⟨n, by omega, by simp; omega, h3⟩
    · have hac : a = c := by simpa [hr] using ha
      subst hac
      refine ⟨k, le_rfl, by simp, ?_⟩
      rw [Memory.drawAll, read_drawAll_other _ _ _ fun d hd => ?_]
      · exact read_write_same h _ _
      · intro e
        exact hr (BitVec.eq_of_toNat_eq e ▸ hd)

theorem Memory.eq_from_of_read {m m' : Memory} {lo : Nat} (h : m.wfFrom lo = true)
    (h' : m'.wfFrom lo = true) (hr : ∀ a, m.read a = m'.read a) : m = m' := by
  induction m generalizing m' lo with
  | nil =>
    cases m' with
    | nil => rfl
    | cons c m' =>
      obtain ⟨k, v⟩ := c
      simp only [Memory.wfFrom, Bool.and_eq_true, decide_eq_true_eq] at h'
      have := hr k
      simp only [Memory.read, if_true] at this
      exact absurd this.symm h'.1.2
  | cons c m ih =>
    obtain ⟨k, v⟩ := c
    have hw := h
    simp only [Memory.wfFrom, Bool.and_eq_true, decide_eq_true_eq] at h
    cases m' with
    | nil =>
      have := hr k
      simp only [Memory.read, if_true] at this
      exact absurd this h.1.2
    | cons c' m' =>
      obtain ⟨k', v'⟩ := c'
      have hw' := h'
      simp only [Memory.wfFrom, Bool.and_eq_true, decide_eq_true_eq] at h'
      have hk : k = k' := by
        rcases lt_trichotomy k k' with hlt | heq | hgt
        · have e := hr k
          have hne : ¬ k' = k := by omega
          simp only [Memory.read, if_true, if_neg hne] at e
          rw [read_of_wfFrom h'.2 (by omega)] at e
          exact absurd e h.1.2
        · exact heq
        · have e := hr k'
          have hne : ¬ k = k' := by omega
          simp only [Memory.read, if_true, if_neg hne] at e
          rw [read_of_wfFrom h.2 (by omega)] at e
          exact absurd e.symm h'.1.2
      subst hk
      have hv : v = v' := by simpa [Memory.read] using hr k
      subst hv
      rw [ih h.2 h'.2 fun a => ?_]
      by_cases hak : a ≤ k
      · rw [read_of_wfFrom h.2 (by omega), read_of_wfFrom h'.2 (by omega)]
      · have hne : ¬ k = a := by omega
        simpa [Memory.read, hne] using hr a

/-- Canonical memories that read the same are equal data. -/
theorem Memory.eq_of_read {m m' : Memory} (h : m.wf = true) (h' : m'.wf = true)
    (hr : ∀ a, m.read a = m'.read a) : m = m' := eq_from_of_read h h' hr

theorem Memory.read_from_outside {m : Memory} {lo a : Nat} (h : m.wfFrom lo = true)
    (ha : Config.addressSpace ≤ a) : m.read a = Config.unlistedByte := by
  induction m generalizing lo with
  | nil => rfl
  | cons c m ih =>
    obtain ⟨k, v⟩ := c
    simp only [Memory.wfFrom, Bool.and_eq_true, decide_eq_true_eq] at h
    have hk : k ≠ a := by omega
    simp only [Memory.read, if_neg hk]
    exact ih h.2

/-- Nothing is listed outside the address space. -/
theorem Memory.read_outside {m : Memory} {a : Nat} (h : m.wf = true) (ha : Config.addressSpace ≤ a) :
    m.read a = Config.unlistedByte := read_from_outside h ha

theorem State.reset_mem_wf : State.reset.mem.wf = true := rfl

end Sys2Proof.Machine
end

