-- ==== Sys2Proof/Laws/State.lean ====
section
/-! SUPPORT. For each named update of the state and each field, what the field is after the update. -/

namespace Sys2Proof.Machine

/-! What a host gets back touches `reply` alone (60_exceptions.md R215). -/

@[simp] theorem State.answerHost_ie (s : State) (host : Nat) (r : Reply) :
    (s.answerHost host r).ie = s.ie := rfl
@[simp] theorem State.answerHost_busy (s : State) (host : Nat) (r : Reply) :
    (s.answerHost host r).busy = s.busy := rfl
@[simp] theorem State.answerHost_done (s : State) (host : Nat) (r : Reply) :
    (s.answerHost host r).done = s.done := rfl
@[simp] theorem State.answerHost_ovr (s : State) (host : Nat) (r : Reply) :
    (s.answerHost host r).ovr = s.ovr := rfl
@[simp] theorem State.answerHost_errcode (s : State) (host : Nat) (r : Reply) :
    (s.answerHost host r).errcode = s.errcode := rfl
@[simp] theorem State.answerHost_result (s : State) (host : Nat) (r : Reply) :
    (s.answerHost host r).result = s.result := rfl
@[simp] theorem State.answerHost_src (s : State) (host : Nat) (r : Reply) :
    (s.answerHost host r).src = s.src := rfl
@[simp] theorem State.answerHost_dst (s : State) (host : Nat) (r : Reply) :
    (s.answerHost host r).dst = s.dst := rfl
@[simp] theorem State.answerHost_len (s : State) (host : Nat) (r : Reply) :
    (s.answerHost host r).len = s.len := rfl
@[simp] theorem State.answerHost_count (s : State) (host : Nat) (r : Reply) :
    (s.answerHost host r).count = s.count := rfl
@[simp] theorem State.answerHost_cfg (s : State) (host : Nat) (r : Reply) :
    (s.answerHost host r).cfg = s.cfg := rfl
@[simp] theorem State.answerHost_engOp (s : State) (host : Nat) (r : Reply) :
    (s.answerHost host r).engOp = s.engOp := rfl
@[simp] theorem State.answerHost_mem (s : State) (host : Nat) (r : Reply) :
    (s.answerHost host r).mem = s.mem := rfl
@[simp] theorem State.answerHost_tainted (s : State) (host : Nat) (r : Reply) :
    (s.answerHost host r).tainted = s.tainted := rfl
@[simp] theorem State.answerHost_draws (s : State) (host : Nat) (r : Reply) :
    (s.answerHost host r).draws = s.draws := rfl
@[simp] theorem State.answerHost_busLog (s : State) (host : Nat) (r : Reply) :
    (s.answerHost host r).busLog = s.busLog := rfl
@[simp] theorem State.answerHost_plat (s : State) (host : Nat) (r : Reply) :
    (s.answerHost host r).plat = s.plat := rfl
@[simp] theorem State.answerHost_schedule (s : State) (host : Nat) (r : Reply) :
    (s.answerHost host r).schedule = s.schedule := rfl
@[simp] theorem State.answerHost_reply (s : State) (host : Nat) (r : Reply) :
    (s.answerHost host r).reply = some (host, r) := rfl

/-! Acceptance clears DONE and ERRCODE (30_encoding.md R95). -/

@[simp] theorem State.accept_ie (s : State) : s.accept.ie = s.ie := rfl
@[simp] theorem State.accept_busy (s : State) : s.accept.busy = s.busy := rfl
@[simp] theorem State.accept_done (s : State) : s.accept.done = false := rfl
@[simp] theorem State.accept_ovr (s : State) : s.accept.ovr = s.ovr := rfl
@[simp] theorem State.accept_errcode (s : State) : s.accept.errcode = .none := rfl
@[simp] theorem State.accept_result (s : State) : s.accept.result = s.result := rfl
@[simp] theorem State.accept_src (s : State) : s.accept.src = s.src := rfl
@[simp] theorem State.accept_dst (s : State) : s.accept.dst = s.dst := rfl
@[simp] theorem State.accept_len (s : State) : s.accept.len = s.len := rfl
@[simp] theorem State.accept_count (s : State) : s.accept.count = s.count := rfl
@[simp] theorem State.accept_cfg (s : State) : s.accept.cfg = s.cfg := rfl
@[simp] theorem State.accept_engOp (s : State) : s.accept.engOp = s.engOp := rfl
@[simp] theorem State.accept_mem (s : State) : s.accept.mem = s.mem := rfl
@[simp] theorem State.accept_tainted (s : State) : s.accept.tainted = s.tainted := rfl
@[simp] theorem State.accept_draws (s : State) : s.accept.draws = s.draws := rfl
@[simp] theorem State.accept_busLog (s : State) : s.accept.busLog = s.busLog := rfl
@[simp] theorem State.accept_plat (s : State) : s.accept.plat = s.plat := rfl
@[simp] theorem State.accept_schedule (s : State) : s.accept.schedule = s.schedule := rfl
@[simp] theorem State.accept_reply (s : State) : s.accept.reply = s.reply := rfl

/-! The end of a command (60_exceptions.md R206). -/

@[simp] theorem State.endCommand_ie (s : State) (e : ErrCode) : (s.endCommand e).ie = s.ie := rfl
@[simp] theorem State.endCommand_busy (s : State) (e : ErrCode) : (s.endCommand e).busy = false := rfl
@[simp] theorem State.endCommand_done (s : State) (e : ErrCode) : (s.endCommand e).done = true := rfl
@[simp] theorem State.endCommand_ovr (s : State) (e : ErrCode) : (s.endCommand e).ovr = s.ovr := rfl
@[simp] theorem State.endCommand_errcode (s : State) (e : ErrCode) : (s.endCommand e).errcode = e := rfl
@[simp] theorem State.endCommand_result (s : State) (e : ErrCode) :
    (s.endCommand e).result = s.result := rfl
@[simp] theorem State.endCommand_src (s : State) (e : ErrCode) : (s.endCommand e).src = s.src := rfl
@[simp] theorem State.endCommand_dst (s : State) (e : ErrCode) : (s.endCommand e).dst = s.dst := rfl
@[simp] theorem State.endCommand_len (s : State) (e : ErrCode) : (s.endCommand e).len = s.len := rfl
@[simp] theorem State.endCommand_count (s : State) (e : ErrCode) :
    (s.endCommand e).count = s.count := rfl
@[simp] theorem State.endCommand_cfg (s : State) (e : ErrCode) : (s.endCommand e).cfg = s.cfg := rfl
@[simp] theorem State.endCommand_engOp (s : State) (e : ErrCode) :
    (s.endCommand e).engOp = s.engOp := rfl
@[simp] theorem State.endCommand_mem (s : State) (e : ErrCode) : (s.endCommand e).mem = s.mem := rfl
@[simp] theorem State.endCommand_tainted (s : State) (e : ErrCode) :
    (s.endCommand e).tainted = s.tainted := rfl
@[simp] theorem State.endCommand_draws (s : State) (e : ErrCode) :
    (s.endCommand e).draws = s.draws := rfl
@[simp] theorem State.endCommand_busLog (s : State) (e : ErrCode) :
    (s.endCommand e).busLog = s.busLog := rfl
@[simp] theorem State.endCommand_plat (s : State) (e : ErrCode) : (s.endCommand e).plat = s.plat := rfl
@[simp] theorem State.endCommand_schedule (s : State) (e : ErrCode) :
    (s.endCommand e).schedule = s.schedule := rfl
@[simp] theorem State.endCommand_reply (s : State) (e : ErrCode) :
    (s.endCommand e).reply = s.reply := rfl

/-! A STATUS write (10_state.md R26). -/

@[simp] theorem State.acknowledge_ie (s : State) (w : Word) : (s.acknowledge w).ie = s.ie := rfl
@[simp] theorem State.acknowledge_busy (s : State) (w : Word) : (s.acknowledge w).busy = s.busy := rfl
@[simp] theorem State.acknowledge_done (s : State) (w : Word) :
    (s.acknowledge w).done = (s.done && !w[2]) := rfl
@[simp] theorem State.acknowledge_ovr (s : State) (w : Word) :
    (s.acknowledge w).ovr = (s.ovr && !w[4]) := rfl
@[simp] theorem State.acknowledge_errcode (s : State) (w : Word) :
    (s.acknowledge w).errcode = s.errcode := rfl
@[simp] theorem State.acknowledge_result (s : State) (w : Word) :
    (s.acknowledge w).result = s.result := rfl
@[simp] theorem State.acknowledge_src (s : State) (w : Word) : (s.acknowledge w).src = s.src := rfl
@[simp] theorem State.acknowledge_dst (s : State) (w : Word) : (s.acknowledge w).dst = s.dst := rfl
@[simp] theorem State.acknowledge_len (s : State) (w : Word) : (s.acknowledge w).len = s.len := rfl
@[simp] theorem State.acknowledge_count (s : State) (w : Word) : (s.acknowledge w).count = s.count := rfl
@[simp] theorem State.acknowledge_cfg (s : State) (w : Word) : (s.acknowledge w).cfg = s.cfg := rfl
@[simp] theorem State.acknowledge_engOp (s : State) (w : Word) : (s.acknowledge w).engOp = s.engOp := rfl
@[simp] theorem State.acknowledge_mem (s : State) (w : Word) : (s.acknowledge w).mem = s.mem := rfl
@[simp] theorem State.acknowledge_tainted (s : State) (w : Word) :
    (s.acknowledge w).tainted = s.tainted := rfl
@[simp] theorem State.acknowledge_draws (s : State) (w : Word) : (s.acknowledge w).draws = s.draws := rfl
@[simp] theorem State.acknowledge_busLog (s : State) (w : Word) :
    (s.acknowledge w).busLog = s.busLog := rfl
@[simp] theorem State.acknowledge_plat (s : State) (w : Word) : (s.acknowledge w).plat = s.plat := rfl
@[simp] theorem State.acknowledge_schedule (s : State) (w : Word) :
    (s.acknowledge w).schedule = s.schedule := rfl
@[simp] theorem State.acknowledge_reply (s : State) (w : Word) : (s.acknowledge w).reply = s.reply := rfl

/-! A lost write (10_state.md R39). -/

@[simp] theorem State.overrun_ie (s : State) : s.overrun.ie = s.ie := rfl
@[simp] theorem State.overrun_busy (s : State) : s.overrun.busy = s.busy := rfl
@[simp] theorem State.overrun_done (s : State) : s.overrun.done = s.done := rfl
@[simp] theorem State.overrun_ovr (s : State) : s.overrun.ovr = true := rfl
@[simp] theorem State.overrun_errcode (s : State) : s.overrun.errcode = s.errcode := rfl
@[simp] theorem State.overrun_result (s : State) : s.overrun.result = s.result := rfl
@[simp] theorem State.overrun_src (s : State) : s.overrun.src = s.src := rfl
@[simp] theorem State.overrun_dst (s : State) : s.overrun.dst = s.dst := rfl
@[simp] theorem State.overrun_len (s : State) : s.overrun.len = s.len := rfl
@[simp] theorem State.overrun_count (s : State) : s.overrun.count = s.count := rfl
@[simp] theorem State.overrun_cfg (s : State) : s.overrun.cfg = s.cfg := rfl
@[simp] theorem State.overrun_engOp (s : State) : s.overrun.engOp = s.engOp := rfl
@[simp] theorem State.overrun_mem (s : State) : s.overrun.mem = s.mem := rfl
@[simp] theorem State.overrun_tainted (s : State) : s.overrun.tainted = s.tainted := rfl
@[simp] theorem State.overrun_draws (s : State) : s.overrun.draws = s.draws := rfl
@[simp] theorem State.overrun_busLog (s : State) : s.overrun.busLog = s.busLog := rfl
@[simp] theorem State.overrun_plat (s : State) : s.overrun.plat = s.plat := rfl
@[simp] theorem State.overrun_schedule (s : State) : s.overrun.schedule = s.schedule := rfl
@[simp] theorem State.overrun_reply (s : State) : s.overrun.reply = s.reply := rfl

/-! The rest of the schedule. -/

@[simp] theorem State.withSchedule_ie (s : State) (rest : List Event) :
    (s.withSchedule rest).ie = s.ie := rfl
@[simp] theorem State.withSchedule_busy (s : State) (rest : List Event) :
    (s.withSchedule rest).busy = s.busy := rfl
@[simp] theorem State.withSchedule_done (s : State) (rest : List Event) :
    (s.withSchedule rest).done = s.done := rfl
@[simp] theorem State.withSchedule_ovr (s : State) (rest : List Event) :
    (s.withSchedule rest).ovr = s.ovr := rfl
@[simp] theorem State.withSchedule_errcode (s : State) (rest : List Event) :
    (s.withSchedule rest).errcode = s.errcode := rfl
@[simp] theorem State.withSchedule_result (s : State) (rest : List Event) :
    (s.withSchedule rest).result = s.result := rfl
@[simp] theorem State.withSchedule_src (s : State) (rest : List Event) :
    (s.withSchedule rest).src = s.src := rfl
@[simp] theorem State.withSchedule_dst (s : State) (rest : List Event) :
    (s.withSchedule rest).dst = s.dst := rfl
@[simp] theorem State.withSchedule_len (s : State) (rest : List Event) :
    (s.withSchedule rest).len = s.len := rfl
@[simp] theorem State.withSchedule_count (s : State) (rest : List Event) :
    (s.withSchedule rest).count = s.count := rfl
@[simp] theorem State.withSchedule_cfg (s : State) (rest : List Event) :
    (s.withSchedule rest).cfg = s.cfg := rfl
@[simp] theorem State.withSchedule_engOp (s : State) (rest : List Event) :
    (s.withSchedule rest).engOp = s.engOp := rfl
@[simp] theorem State.withSchedule_mem (s : State) (rest : List Event) :
    (s.withSchedule rest).mem = s.mem := rfl
@[simp] theorem State.withSchedule_tainted (s : State) (rest : List Event) :
    (s.withSchedule rest).tainted = s.tainted := rfl
@[simp] theorem State.withSchedule_draws (s : State) (rest : List Event) :
    (s.withSchedule rest).draws = s.draws := rfl
@[simp] theorem State.withSchedule_busLog (s : State) (rest : List Event) :
    (s.withSchedule rest).busLog = s.busLog := rfl
@[simp] theorem State.withSchedule_plat (s : State) (rest : List Event) :
    (s.withSchedule rest).plat = s.plat := rfl
@[simp] theorem State.withSchedule_schedule (s : State) (rest : List Event) :
    (s.withSchedule rest).schedule = rest := rfl
@[simp] theorem State.withSchedule_reply (s : State) (rest : List Event) :
    (s.withSchedule rest).reply = s.reply := rfl

/-! CTRL.IE (10_state.md R25). -/

@[simp] theorem State.setIe_ie (s : State) (b : Bool) : (s.setIe b).ie = b := rfl
@[simp] theorem State.setIe_busy (s : State) (b : Bool) : (s.setIe b).busy = s.busy := rfl
@[simp] theorem State.setIe_done (s : State) (b : Bool) : (s.setIe b).done = s.done := rfl
@[simp] theorem State.setIe_ovr (s : State) (b : Bool) : (s.setIe b).ovr = s.ovr := rfl
@[simp] theorem State.setIe_errcode (s : State) (b : Bool) : (s.setIe b).errcode = s.errcode := rfl
@[simp] theorem State.setIe_result (s : State) (b : Bool) : (s.setIe b).result = s.result := rfl
@[simp] theorem State.setIe_src (s : State) (b : Bool) : (s.setIe b).src = s.src := rfl
@[simp] theorem State.setIe_dst (s : State) (b : Bool) : (s.setIe b).dst = s.dst := rfl
@[simp] theorem State.setIe_len (s : State) (b : Bool) : (s.setIe b).len = s.len := rfl
@[simp] theorem State.setIe_count (s : State) (b : Bool) : (s.setIe b).count = s.count := rfl
@[simp] theorem State.setIe_cfg (s : State) (b : Bool) : (s.setIe b).cfg = s.cfg := rfl
@[simp] theorem State.setIe_engOp (s : State) (b : Bool) : (s.setIe b).engOp = s.engOp := rfl
@[simp] theorem State.setIe_mem (s : State) (b : Bool) : (s.setIe b).mem = s.mem := rfl
@[simp] theorem State.setIe_tainted (s : State) (b : Bool) : (s.setIe b).tainted = s.tainted := rfl
@[simp] theorem State.setIe_draws (s : State) (b : Bool) : (s.setIe b).draws = s.draws := rfl
@[simp] theorem State.setIe_busLog (s : State) (b : Bool) : (s.setIe b).busLog = s.busLog := rfl
@[simp] theorem State.setIe_plat (s : State) (b : Bool) : (s.setIe b).plat = s.plat := rfl
@[simp] theorem State.setIe_schedule (s : State) (b : Bool) : (s.setIe b).schedule = s.schedule := rfl
@[simp] theorem State.setIe_reply (s : State) (b : Bool) : (s.setIe b).reply = s.reply := rfl

/-! SRC (10_state.md R35). -/

@[simp] theorem State.setSrc_ie (s : State) (v : Word) : (s.setSrc v).ie = s.ie := rfl
@[simp] theorem State.setSrc_busy (s : State) (v : Word) : (s.setSrc v).busy = s.busy := rfl
@[simp] theorem State.setSrc_done (s : State) (v : Word) : (s.setSrc v).done = s.done := rfl
@[simp] theorem State.setSrc_ovr (s : State) (v : Word) : (s.setSrc v).ovr = s.ovr := rfl
@[simp] theorem State.setSrc_errcode (s : State) (v : Word) : (s.setSrc v).errcode = s.errcode := rfl
@[simp] theorem State.setSrc_result (s : State) (v : Word) : (s.setSrc v).result = s.result := rfl
@[simp] theorem State.setSrc_src (s : State) (v : Word) : (s.setSrc v).src = v := rfl
@[simp] theorem State.setSrc_dst (s : State) (v : Word) : (s.setSrc v).dst = s.dst := rfl
@[simp] theorem State.setSrc_len (s : State) (v : Word) : (s.setSrc v).len = s.len := rfl
@[simp] theorem State.setSrc_count (s : State) (v : Word) : (s.setSrc v).count = s.count := rfl
@[simp] theorem State.setSrc_cfg (s : State) (v : Word) : (s.setSrc v).cfg = s.cfg := rfl
@[simp] theorem State.setSrc_engOp (s : State) (v : Word) : (s.setSrc v).engOp = s.engOp := rfl
@[simp] theorem State.setSrc_mem (s : State) (v : Word) : (s.setSrc v).mem = s.mem := rfl
@[simp] theorem State.setSrc_tainted (s : State) (v : Word) : (s.setSrc v).tainted = s.tainted := rfl
@[simp] theorem State.setSrc_draws (s : State) (v : Word) : (s.setSrc v).draws = s.draws := rfl
@[simp] theorem State.setSrc_busLog (s : State) (v : Word) : (s.setSrc v).busLog = s.busLog := rfl
@[simp] theorem State.setSrc_plat (s : State) (v : Word) : (s.setSrc v).plat = s.plat := rfl
@[simp] theorem State.setSrc_schedule (s : State) (v : Word) : (s.setSrc v).schedule = s.schedule := rfl
@[simp] theorem State.setSrc_reply (s : State) (v : Word) : (s.setSrc v).reply = s.reply := rfl

/-! DST (10_state.md R36). -/

@[simp] theorem State.setDst_ie (s : State) (v : Word) : (s.setDst v).ie = s.ie := rfl
@[simp] theorem State.setDst_busy (s : State) (v : Word) : (s.setDst v).busy = s.busy := rfl
@[simp] theorem State.setDst_done (s : State) (v : Word) : (s.setDst v).done = s.done := rfl
@[simp] theorem State.setDst_ovr (s : State) (v : Word) : (s.setDst v).ovr = s.ovr := rfl
@[simp] theorem State.setDst_errcode (s : State) (v : Word) : (s.setDst v).errcode = s.errcode := rfl
@[simp] theorem State.setDst_result (s : State) (v : Word) : (s.setDst v).result = s.result := rfl
@[simp] theorem State.setDst_src (s : State) (v : Word) : (s.setDst v).src = s.src := rfl
@[simp] theorem State.setDst_dst (s : State) (v : Word) : (s.setDst v).dst = v := rfl
@[simp] theorem State.setDst_len (s : State) (v : Word) : (s.setDst v).len = s.len := rfl
@[simp] theorem State.setDst_count (s : State) (v : Word) : (s.setDst v).count = s.count := rfl
@[simp] theorem State.setDst_cfg (s : State) (v : Word) : (s.setDst v).cfg = s.cfg := rfl
@[simp] theorem State.setDst_engOp (s : State) (v : Word) : (s.setDst v).engOp = s.engOp := rfl
@[simp] theorem State.setDst_mem (s : State) (v : Word) : (s.setDst v).mem = s.mem := rfl
@[simp] theorem State.setDst_tainted (s : State) (v : Word) : (s.setDst v).tainted = s.tainted := rfl
@[simp] theorem State.setDst_draws (s : State) (v : Word) : (s.setDst v).draws = s.draws := rfl
@[simp] theorem State.setDst_busLog (s : State) (v : Word) : (s.setDst v).busLog = s.busLog := rfl
@[simp] theorem State.setDst_plat (s : State) (v : Word) : (s.setDst v).plat = s.plat := rfl
@[simp] theorem State.setDst_schedule (s : State) (v : Word) : (s.setDst v).schedule = s.schedule := rfl
@[simp] theorem State.setDst_reply (s : State) (v : Word) : (s.setDst v).reply = s.reply := rfl

/-! LEN (10_state.md R37). -/

@[simp] theorem State.setLen_ie (s : State) (v : Word) : (s.setLen v).ie = s.ie := rfl
@[simp] theorem State.setLen_busy (s : State) (v : Word) : (s.setLen v).busy = s.busy := rfl
@[simp] theorem State.setLen_done (s : State) (v : Word) : (s.setLen v).done = s.done := rfl
@[simp] theorem State.setLen_ovr (s : State) (v : Word) : (s.setLen v).ovr = s.ovr := rfl
@[simp] theorem State.setLen_errcode (s : State) (v : Word) : (s.setLen v).errcode = s.errcode := rfl
@[simp] theorem State.setLen_result (s : State) (v : Word) : (s.setLen v).result = s.result := rfl
@[simp] theorem State.setLen_src (s : State) (v : Word) : (s.setLen v).src = s.src := rfl
@[simp] theorem State.setLen_dst (s : State) (v : Word) : (s.setLen v).dst = s.dst := rfl
@[simp] theorem State.setLen_len (s : State) (v : Word) : (s.setLen v).len = v := rfl
@[simp] theorem State.setLen_count (s : State) (v : Word) : (s.setLen v).count = s.count := rfl
@[simp] theorem State.setLen_cfg (s : State) (v : Word) : (s.setLen v).cfg = s.cfg := rfl
@[simp] theorem State.setLen_engOp (s : State) (v : Word) : (s.setLen v).engOp = s.engOp := rfl
@[simp] theorem State.setLen_mem (s : State) (v : Word) : (s.setLen v).mem = s.mem := rfl
@[simp] theorem State.setLen_tainted (s : State) (v : Word) : (s.setLen v).tainted = s.tainted := rfl
@[simp] theorem State.setLen_draws (s : State) (v : Word) : (s.setLen v).draws = s.draws := rfl
@[simp] theorem State.setLen_busLog (s : State) (v : Word) : (s.setLen v).busLog = s.busLog := rfl
@[simp] theorem State.setLen_plat (s : State) (v : Word) : (s.setLen v).plat = s.plat := rfl
@[simp] theorem State.setLen_schedule (s : State) (v : Word) : (s.setLen v).schedule = s.schedule := rfl
@[simp] theorem State.setLen_reply (s : State) (v : Word) : (s.setLen v).reply = s.reply := rfl

/-! COUNT (10_state.md R38). -/

@[simp] theorem State.setCount_ie (s : State) (v : Word) : (s.setCount v).ie = s.ie := rfl
@[simp] theorem State.setCount_busy (s : State) (v : Word) : (s.setCount v).busy = s.busy := rfl
@[simp] theorem State.setCount_done (s : State) (v : Word) : (s.setCount v).done = s.done := rfl
@[simp] theorem State.setCount_ovr (s : State) (v : Word) : (s.setCount v).ovr = s.ovr := rfl
@[simp] theorem State.setCount_errcode (s : State) (v : Word) : (s.setCount v).errcode = s.errcode := rfl
@[simp] theorem State.setCount_result (s : State) (v : Word) : (s.setCount v).result = s.result := rfl
@[simp] theorem State.setCount_src (s : State) (v : Word) : (s.setCount v).src = s.src := rfl
@[simp] theorem State.setCount_dst (s : State) (v : Word) : (s.setCount v).dst = s.dst := rfl
@[simp] theorem State.setCount_len (s : State) (v : Word) : (s.setCount v).len = s.len := rfl
@[simp] theorem State.setCount_count (s : State) (v : Word) : (s.setCount v).count = v := rfl
@[simp] theorem State.setCount_cfg (s : State) (v : Word) : (s.setCount v).cfg = s.cfg := rfl
@[simp] theorem State.setCount_engOp (s : State) (v : Word) : (s.setCount v).engOp = s.engOp := rfl
@[simp] theorem State.setCount_mem (s : State) (v : Word) : (s.setCount v).mem = s.mem := rfl
@[simp] theorem State.setCount_tainted (s : State) (v : Word) : (s.setCount v).tainted = s.tainted := rfl
@[simp] theorem State.setCount_draws (s : State) (v : Word) : (s.setCount v).draws = s.draws := rfl
@[simp] theorem State.setCount_busLog (s : State) (v : Word) : (s.setCount v).busLog = s.busLog := rfl
@[simp] theorem State.setCount_plat (s : State) (v : Word) : (s.setCount v).plat = s.plat := rfl
@[simp] theorem State.setCount_schedule (s : State) (v : Word) :
    (s.setCount v).schedule = s.schedule := rfl
@[simp] theorem State.setCount_reply (s : State) (v : Word) : (s.setCount v).reply = s.reply := rfl

/-! RESULT (10_state.md R34). -/

@[simp] theorem State.setResult_ie (s : State) (v : Byte) : (s.setResult v).ie = s.ie := rfl
@[simp] theorem State.setResult_busy (s : State) (v : Byte) : (s.setResult v).busy = s.busy := rfl
@[simp] theorem State.setResult_done (s : State) (v : Byte) : (s.setResult v).done = s.done := rfl
@[simp] theorem State.setResult_ovr (s : State) (v : Byte) : (s.setResult v).ovr = s.ovr := rfl
@[simp] theorem State.setResult_errcode (s : State) (v : Byte) :
    (s.setResult v).errcode = s.errcode := rfl
@[simp] theorem State.setResult_result (s : State) (v : Byte) : (s.setResult v).result = v := rfl
@[simp] theorem State.setResult_src (s : State) (v : Byte) : (s.setResult v).src = s.src := rfl
@[simp] theorem State.setResult_dst (s : State) (v : Byte) : (s.setResult v).dst = s.dst := rfl
@[simp] theorem State.setResult_len (s : State) (v : Byte) : (s.setResult v).len = s.len := rfl
@[simp] theorem State.setResult_count (s : State) (v : Byte) : (s.setResult v).count = s.count := rfl
@[simp] theorem State.setResult_cfg (s : State) (v : Byte) : (s.setResult v).cfg = s.cfg := rfl
@[simp] theorem State.setResult_engOp (s : State) (v : Byte) : (s.setResult v).engOp = s.engOp := rfl
@[simp] theorem State.setResult_mem (s : State) (v : Byte) : (s.setResult v).mem = s.mem := rfl
@[simp] theorem State.setResult_tainted (s : State) (v : Byte) :
    (s.setResult v).tainted = s.tainted := rfl
@[simp] theorem State.setResult_draws (s : State) (v : Byte) : (s.setResult v).draws = s.draws := rfl
@[simp] theorem State.setResult_busLog (s : State) (v : Byte) : (s.setResult v).busLog = s.busLog := rfl
@[simp] theorem State.setResult_plat (s : State) (v : Byte) : (s.setResult v).plat = s.plat := rfl
@[simp] theorem State.setResult_schedule (s : State) (v : Byte) :
    (s.setResult v).schedule = s.schedule := rfl
@[simp] theorem State.setResult_reply (s : State) (v : Byte) : (s.setResult v).reply = s.reply := rfl

/-! The configuration (10_state.md R40). -/

@[simp] theorem State.setCfg_ie (s : State) (c : Cfg) : (s.setCfg c).ie = s.ie := rfl
@[simp] theorem State.setCfg_busy (s : State) (c : Cfg) : (s.setCfg c).busy = s.busy := rfl
@[simp] theorem State.setCfg_done (s : State) (c : Cfg) : (s.setCfg c).done = s.done := rfl
@[simp] theorem State.setCfg_ovr (s : State) (c : Cfg) : (s.setCfg c).ovr = s.ovr := rfl
@[simp] theorem State.setCfg_errcode (s : State) (c : Cfg) : (s.setCfg c).errcode = s.errcode := rfl
@[simp] theorem State.setCfg_result (s : State) (c : Cfg) : (s.setCfg c).result = s.result := rfl
@[simp] theorem State.setCfg_src (s : State) (c : Cfg) : (s.setCfg c).src = s.src := rfl
@[simp] theorem State.setCfg_dst (s : State) (c : Cfg) : (s.setCfg c).dst = s.dst := rfl
@[simp] theorem State.setCfg_len (s : State) (c : Cfg) : (s.setCfg c).len = s.len := rfl
@[simp] theorem State.setCfg_count (s : State) (c : Cfg) : (s.setCfg c).count = s.count := rfl
@[simp] theorem State.setCfg_cfg (s : State) (c : Cfg) : (s.setCfg c).cfg = c := rfl
@[simp] theorem State.setCfg_engOp (s : State) (c : Cfg) : (s.setCfg c).engOp = s.engOp := rfl
@[simp] theorem State.setCfg_mem (s : State) (c : Cfg) : (s.setCfg c).mem = s.mem := rfl
@[simp] theorem State.setCfg_tainted (s : State) (c : Cfg) : (s.setCfg c).tainted = s.tainted := rfl
@[simp] theorem State.setCfg_draws (s : State) (c : Cfg) : (s.setCfg c).draws = s.draws := rfl
@[simp] theorem State.setCfg_busLog (s : State) (c : Cfg) : (s.setCfg c).busLog = s.busLog := rfl
@[simp] theorem State.setCfg_plat (s : State) (c : Cfg) : (s.setCfg c).plat = s.plat := rfl
@[simp] theorem State.setCfg_schedule (s : State) (c : Cfg) : (s.setCfg c).schedule = s.schedule := rfl
@[simp] theorem State.setCfg_reply (s : State) (c : Cfg) : (s.setCfg c).reply = s.reply := rfl

/-! The engine starts (42_buffer_transform.md R174). -/

@[simp] theorem State.startEngine_ie (s : State) (op : EngOp) : (s.startEngine op).ie = s.ie := rfl
@[simp] theorem State.startEngine_busy (s : State) (op : EngOp) : (s.startEngine op).busy = true := rfl
@[simp] theorem State.startEngine_done (s : State) (op : EngOp) : (s.startEngine op).done = s.done := rfl
@[simp] theorem State.startEngine_ovr (s : State) (op : EngOp) : (s.startEngine op).ovr = s.ovr := rfl
@[simp] theorem State.startEngine_errcode (s : State) (op : EngOp) :
    (s.startEngine op).errcode = s.errcode := rfl
@[simp] theorem State.startEngine_result (s : State) (op : EngOp) :
    (s.startEngine op).result = s.result := rfl
@[simp] theorem State.startEngine_src (s : State) (op : EngOp) : (s.startEngine op).src = s.src := rfl
@[simp] theorem State.startEngine_dst (s : State) (op : EngOp) : (s.startEngine op).dst = s.dst := rfl
@[simp] theorem State.startEngine_len (s : State) (op : EngOp) : (s.startEngine op).len = s.len := rfl
@[simp] theorem State.startEngine_count (s : State) (op : EngOp) :
    (s.startEngine op).count = s.count := rfl
@[simp] theorem State.startEngine_cfg (s : State) (op : EngOp) : (s.startEngine op).cfg = s.cfg := rfl
@[simp] theorem State.startEngine_engOp (s : State) (op : EngOp) : (s.startEngine op).engOp = op := rfl
@[simp] theorem State.startEngine_mem (s : State) (op : EngOp) : (s.startEngine op).mem = s.mem := rfl
@[simp] theorem State.startEngine_tainted (s : State) (op : EngOp) :
    (s.startEngine op).tainted = s.tainted := rfl
@[simp] theorem State.startEngine_draws (s : State) (op : EngOp) :
    (s.startEngine op).draws = s.draws := rfl
@[simp] theorem State.startEngine_busLog (s : State) (op : EngOp) :
    (s.startEngine op).busLog = s.busLog := rfl
@[simp] theorem State.startEngine_plat (s : State) (op : EngOp) : (s.startEngine op).plat = s.plat := rfl
@[simp] theorem State.startEngine_schedule (s : State) (op : EngOp) :
    (s.startEngine op).schedule = s.schedule := rfl
@[simp] theorem State.startEngine_reply (s : State) (op : EngOp) :
    (s.startEngine op).reply = s.reply := rfl

/-! The configuration and the last result are dropped (40_configuration.md R115). -/

@[simp] theorem State.discard_ie (s : State) : s.discard.ie = s.ie := rfl
@[simp] theorem State.discard_busy (s : State) : s.discard.busy = s.busy := rfl
@[simp] theorem State.discard_done (s : State) : s.discard.done = s.done := rfl
@[simp] theorem State.discard_ovr (s : State) : s.discard.ovr = s.ovr := rfl
@[simp] theorem State.discard_errcode (s : State) : s.discard.errcode = s.errcode := rfl
@[simp] theorem State.discard_result (s : State) : s.discard.result = 0#8 := rfl
@[simp] theorem State.discard_src (s : State) : s.discard.src = s.src := rfl
@[simp] theorem State.discard_dst (s : State) : s.discard.dst = s.dst := rfl
@[simp] theorem State.discard_len (s : State) : s.discard.len = s.len := rfl
@[simp] theorem State.discard_count (s : State) : s.discard.count = s.count := rfl
@[simp] theorem State.discard_cfg (s : State) : s.discard.cfg = Cfg.cleared := rfl
@[simp] theorem State.discard_engOp (s : State) : s.discard.engOp = s.engOp := rfl
@[simp] theorem State.discard_mem (s : State) : s.discard.mem = s.mem := rfl
@[simp] theorem State.discard_tainted (s : State) : s.discard.tainted = s.tainted := rfl
@[simp] theorem State.discard_draws (s : State) : s.discard.draws = s.draws := rfl
@[simp] theorem State.discard_busLog (s : State) : s.discard.busLog = s.busLog := rfl
@[simp] theorem State.discard_plat (s : State) : s.discard.plat = s.plat := rfl
@[simp] theorem State.discard_schedule (s : State) : s.discard.schedule = s.schedule := rfl
@[simp] theorem State.discard_reply (s : State) : s.discard.reply = s.reply := rfl

/-! A byte of memory is written (20_memory.md R61). -/

@[simp] theorem State.setByte_ie (s : State) (a : Word) (v : Byte) : (s.setByte a v).ie = s.ie := rfl
@[simp] theorem State.setByte_busy (s : State) (a : Word) (v : Byte) :
    (s.setByte a v).busy = s.busy := rfl
@[simp] theorem State.setByte_done (s : State) (a : Word) (v : Byte) :
    (s.setByte a v).done = s.done := rfl
@[simp] theorem State.setByte_ovr (s : State) (a : Word) (v : Byte) : (s.setByte a v).ovr = s.ovr := rfl
@[simp] theorem State.setByte_errcode (s : State) (a : Word) (v : Byte) :
    (s.setByte a v).errcode = s.errcode := rfl
@[simp] theorem State.setByte_result (s : State) (a : Word) (v : Byte) :
    (s.setByte a v).result = s.result := rfl
@[simp] theorem State.setByte_src (s : State) (a : Word) (v : Byte) : (s.setByte a v).src = s.src := rfl
@[simp] theorem State.setByte_dst (s : State) (a : Word) (v : Byte) : (s.setByte a v).dst = s.dst := rfl
@[simp] theorem State.setByte_len (s : State) (a : Word) (v : Byte) : (s.setByte a v).len = s.len := rfl
@[simp] theorem State.setByte_count (s : State) (a : Word) (v : Byte) :
    (s.setByte a v).count = s.count := rfl
@[simp] theorem State.setByte_cfg (s : State) (a : Word) (v : Byte) : (s.setByte a v).cfg = s.cfg := rfl
@[simp] theorem State.setByte_engOp (s : State) (a : Word) (v : Byte) :
    (s.setByte a v).engOp = s.engOp := rfl
@[simp] theorem State.setByte_mem (s : State) (a : Word) (v : Byte) :
    (s.setByte a v).mem = s.mem.write a.toNat v := rfl
@[simp] theorem State.setByte_tainted (s : State) (a : Word) (v : Byte) :
    (s.setByte a v).tainted = s.tainted := rfl
@[simp] theorem State.setByte_draws (s : State) (a : Word) (v : Byte) :
    (s.setByte a v).draws = s.draws := rfl
@[simp] theorem State.setByte_busLog (s : State) (a : Word) (v : Byte) :
    (s.setByte a v).busLog = s.busLog := rfl
@[simp] theorem State.setByte_plat (s : State) (a : Word) (v : Byte) :
    (s.setByte a v).plat = s.plat := rfl
@[simp] theorem State.setByte_schedule (s : State) (a : Word) (v : Byte) :
    (s.setByte a v).schedule = s.schedule := rfl
@[simp] theorem State.setByte_reply (s : State) (a : Word) (v : Byte) :
    (s.setByte a v).reply = s.reply := rfl

/-! Bytes of memory become draws. -/

@[simp] theorem State.drawBytes_ie (s : State) (addrs : List Word) : (s.drawBytes addrs).ie = s.ie := rfl
@[simp] theorem State.drawBytes_busy (s : State) (addrs : List Word) :
    (s.drawBytes addrs).busy = s.busy := rfl
@[simp] theorem State.drawBytes_done (s : State) (addrs : List Word) :
    (s.drawBytes addrs).done = s.done := rfl
@[simp] theorem State.drawBytes_ovr (s : State) (addrs : List Word) :
    (s.drawBytes addrs).ovr = s.ovr := rfl
@[simp] theorem State.drawBytes_errcode (s : State) (addrs : List Word) :
    (s.drawBytes addrs).errcode = s.errcode := rfl
@[simp] theorem State.drawBytes_result (s : State) (addrs : List Word) :
    (s.drawBytes addrs).result = s.result := rfl
@[simp] theorem State.drawBytes_src (s : State) (addrs : List Word) :
    (s.drawBytes addrs).src = s.src := rfl
@[simp] theorem State.drawBytes_dst (s : State) (addrs : List Word) :
    (s.drawBytes addrs).dst = s.dst := rfl
@[simp] theorem State.drawBytes_len (s : State) (addrs : List Word) :
    (s.drawBytes addrs).len = s.len := rfl
@[simp] theorem State.drawBytes_count (s : State) (addrs : List Word) :
    (s.drawBytes addrs).count = s.count := rfl
@[simp] theorem State.drawBytes_cfg (s : State) (addrs : List Word) :
    (s.drawBytes addrs).cfg = s.cfg := rfl
@[simp] theorem State.drawBytes_engOp (s : State) (addrs : List Word) :
    (s.drawBytes addrs).engOp = s.engOp := rfl
@[simp] theorem State.drawBytes_mem (s : State) (addrs : List Word) :
    (s.drawBytes addrs).mem = s.mem.drawAll s.draws addrs := rfl
@[simp] theorem State.drawBytes_tainted (s : State) (addrs : List Word) :
    (s.drawBytes addrs).tainted = s.tainted := rfl
@[simp] theorem State.drawBytes_draws (s : State) (addrs : List Word) :
    (s.drawBytes addrs).draws = s.draws + addrs.length := rfl
@[simp] theorem State.drawBytes_busLog (s : State) (addrs : List Word) :
    (s.drawBytes addrs).busLog = s.busLog := rfl
@[simp] theorem State.drawBytes_plat (s : State) (addrs : List Word) :
    (s.drawBytes addrs).plat = s.plat := rfl
@[simp] theorem State.drawBytes_schedule (s : State) (addrs : List Word) :
    (s.drawBytes addrs).schedule = s.schedule := rfl
@[simp] theorem State.drawBytes_reply (s : State) (addrs : List Word) :
    (s.drawBytes addrs).reply = s.reply := rfl

/-! A free value is used. -/

@[simp] theorem State.useDraw_ie (s : State) : s.useDraw.ie = s.ie := rfl
@[simp] theorem State.useDraw_busy (s : State) : s.useDraw.busy = s.busy := rfl
@[simp] theorem State.useDraw_done (s : State) : s.useDraw.done = s.done := rfl
@[simp] theorem State.useDraw_ovr (s : State) : s.useDraw.ovr = s.ovr := rfl
@[simp] theorem State.useDraw_errcode (s : State) : s.useDraw.errcode = s.errcode := rfl
@[simp] theorem State.useDraw_result (s : State) : s.useDraw.result = s.result := rfl
@[simp] theorem State.useDraw_src (s : State) : s.useDraw.src = s.src := rfl
@[simp] theorem State.useDraw_dst (s : State) : s.useDraw.dst = s.dst := rfl
@[simp] theorem State.useDraw_len (s : State) : s.useDraw.len = s.len := rfl
@[simp] theorem State.useDraw_count (s : State) : s.useDraw.count = s.count := rfl
@[simp] theorem State.useDraw_cfg (s : State) : s.useDraw.cfg = s.cfg := rfl
@[simp] theorem State.useDraw_engOp (s : State) : s.useDraw.engOp = s.engOp := rfl
@[simp] theorem State.useDraw_mem (s : State) : s.useDraw.mem = s.mem := rfl
@[simp] theorem State.useDraw_tainted (s : State) : s.useDraw.tainted = s.tainted := rfl
@[simp] theorem State.useDraw_draws (s : State) : s.useDraw.draws = s.draws + 1 := rfl
@[simp] theorem State.useDraw_busLog (s : State) : s.useDraw.busLog = s.busLog := rfl
@[simp] theorem State.useDraw_plat (s : State) : s.useDraw.plat = s.plat := rfl
@[simp] theorem State.useDraw_schedule (s : State) : s.useDraw.schedule = s.schedule := rfl
@[simp] theorem State.useDraw_reply (s : State) : s.useDraw.reply = s.reply := rfl

/-! An engine access is recorded (20_memory.md R66). -/

@[simp] theorem State.logAccess_ie (s : State) (k : AccessKind) (a : Word) :
    (s.logAccess k a).ie = s.ie := rfl
@[simp] theorem State.logAccess_busy (s : State) (k : AccessKind) (a : Word) :
    (s.logAccess k a).busy = s.busy := rfl
@[simp] theorem State.logAccess_done (s : State) (k : AccessKind) (a : Word) :
    (s.logAccess k a).done = s.done := rfl
@[simp] theorem State.logAccess_ovr (s : State) (k : AccessKind) (a : Word) :
    (s.logAccess k a).ovr = s.ovr := rfl
@[simp] theorem State.logAccess_errcode (s : State) (k : AccessKind) (a : Word) :
    (s.logAccess k a).errcode = s.errcode := rfl
@[simp] theorem State.logAccess_result (s : State) (k : AccessKind) (a : Word) :
    (s.logAccess k a).result = s.result := rfl
@[simp] theorem State.logAccess_src (s : State) (k : AccessKind) (a : Word) :
    (s.logAccess k a).src = s.src := rfl
@[simp] theorem State.logAccess_dst (s : State) (k : AccessKind) (a : Word) :
    (s.logAccess k a).dst = s.dst := rfl
@[simp] theorem State.logAccess_len (s : State) (k : AccessKind) (a : Word) :
    (s.logAccess k a).len = s.len := rfl
@[simp] theorem State.logAccess_count (s : State) (k : AccessKind) (a : Word) :
    (s.logAccess k a).count = s.count := rfl
@[simp] theorem State.logAccess_cfg (s : State) (k : AccessKind) (a : Word) :
    (s.logAccess k a).cfg = s.cfg := rfl
@[simp] theorem State.logAccess_engOp (s : State) (k : AccessKind) (a : Word) :
    (s.logAccess k a).engOp = s.engOp := rfl
@[simp] theorem State.logAccess_mem (s : State) (k : AccessKind) (a : Word) :
    (s.logAccess k a).mem = s.mem := rfl
@[simp] theorem State.logAccess_tainted (s : State) (k : AccessKind) (a : Word) :
    (s.logAccess k a).tainted = s.tainted := rfl
@[simp] theorem State.logAccess_draws (s : State) (k : AccessKind) (a : Word) :
    (s.logAccess k a).draws = s.draws := rfl
@[simp] theorem State.logAccess_busLog (s : State) (k : AccessKind) (a : Word) :
    (s.logAccess k a).busLog = ⟨k, a⟩ :: s.busLog := rfl
@[simp] theorem State.logAccess_plat (s : State) (k : AccessKind) (a : Word) :
    (s.logAccess k a).plat = s.plat := rfl
@[simp] theorem State.logAccess_schedule (s : State) (k : AccessKind) (a : Word) :
    (s.logAccess k a).schedule = s.schedule := rfl
@[simp] theorem State.logAccess_reply (s : State) (k : AccessKind) (a : Word) :
    (s.logAccess k a).reply = s.reply := rfl

/-! Raced bytes become draws (20_memory.md R73). -/

@[simp] theorem State.settleRaces_ie (s : State) : s.settleRaces.ie = s.ie := rfl
@[simp] theorem State.settleRaces_busy (s : State) : s.settleRaces.busy = s.busy := rfl
@[simp] theorem State.settleRaces_done (s : State) : s.settleRaces.done = s.done := rfl
@[simp] theorem State.settleRaces_ovr (s : State) : s.settleRaces.ovr = s.ovr := rfl
@[simp] theorem State.settleRaces_errcode (s : State) : s.settleRaces.errcode = s.errcode := rfl
@[simp] theorem State.settleRaces_result (s : State) : s.settleRaces.result = s.result := rfl
@[simp] theorem State.settleRaces_src (s : State) : s.settleRaces.src = s.src := rfl
@[simp] theorem State.settleRaces_dst (s : State) : s.settleRaces.dst = s.dst := rfl
@[simp] theorem State.settleRaces_len (s : State) : s.settleRaces.len = s.len := rfl
@[simp] theorem State.settleRaces_count (s : State) : s.settleRaces.count = s.count := rfl
@[simp] theorem State.settleRaces_cfg (s : State) : s.settleRaces.cfg = s.cfg := rfl
@[simp] theorem State.settleRaces_engOp (s : State) : s.settleRaces.engOp = s.engOp := rfl
@[simp] theorem State.settleRaces_mem (s : State) :
    s.settleRaces.mem = s.mem.drawAll s.draws s.tainted := rfl
@[simp] theorem State.settleRaces_tainted (s : State) : s.settleRaces.tainted = [] := rfl
@[simp] theorem State.settleRaces_draws (s : State) :
    s.settleRaces.draws = s.draws + s.tainted.length := rfl
@[simp] theorem State.settleRaces_busLog (s : State) : s.settleRaces.busLog = s.busLog := rfl
@[simp] theorem State.settleRaces_plat (s : State) : s.settleRaces.plat = s.plat := rfl
@[simp] theorem State.settleRaces_schedule (s : State) : s.settleRaces.schedule = s.schedule := rfl
@[simp] theorem State.settleRaces_reply (s : State) : s.settleRaces.reply = s.reply := rfl

/-! An opened race touches `tainted` alone (20_memory.md R73). -/

@[simp] theorem State.taint_ie (s : State) (a : Word) : (s.taint a).ie = s.ie := by
  unfold State.taint; split <;> rfl
@[simp] theorem State.taint_busy (s : State) (a : Word) : (s.taint a).busy = s.busy := by
  unfold State.taint; split <;> rfl
@[simp] theorem State.taint_done (s : State) (a : Word) : (s.taint a).done = s.done := by
  unfold State.taint; split <;> rfl
@[simp] theorem State.taint_ovr (s : State) (a : Word) : (s.taint a).ovr = s.ovr := by
  unfold State.taint; split <;> rfl
@[simp] theorem State.taint_errcode (s : State) (a : Word) : (s.taint a).errcode = s.errcode := by
  unfold State.taint; split <;> rfl
@[simp] theorem State.taint_result (s : State) (a : Word) : (s.taint a).result = s.result := by
  unfold State.taint; split <;> rfl
@[simp] theorem State.taint_src (s : State) (a : Word) : (s.taint a).src = s.src := by
  unfold State.taint; split <;> rfl
@[simp] theorem State.taint_dst (s : State) (a : Word) : (s.taint a).dst = s.dst := by
  unfold State.taint; split <;> rfl
@[simp] theorem State.taint_len (s : State) (a : Word) : (s.taint a).len = s.len := by
  unfold State.taint; split <;> rfl
@[simp] theorem State.taint_count (s : State) (a : Word) : (s.taint a).count = s.count := by
  unfold State.taint; split <;> rfl
@[simp] theorem State.taint_cfg (s : State) (a : Word) : (s.taint a).cfg = s.cfg := by
  unfold State.taint; split <;> rfl
@[simp] theorem State.taint_engOp (s : State) (a : Word) : (s.taint a).engOp = s.engOp := by
  unfold State.taint; split <;> rfl
@[simp] theorem State.taint_mem (s : State) (a : Word) : (s.taint a).mem = s.mem := by
  unfold State.taint; split <;> rfl
@[simp] theorem State.taint_draws (s : State) (a : Word) : (s.taint a).draws = s.draws := by
  unfold State.taint; split <;> rfl
@[simp] theorem State.taint_busLog (s : State) (a : Word) : (s.taint a).busLog = s.busLog := by
  unfold State.taint; split <;> rfl
@[simp] theorem State.taint_plat (s : State) (a : Word) : (s.taint a).plat = s.plat := by
  unfold State.taint; split <;> rfl
@[simp] theorem State.taint_schedule (s : State) (a : Word) : (s.taint a).schedule = s.schedule := by
  unfold State.taint; split <;> rfl
@[simp] theorem State.taint_reply (s : State) (a : Word) : (s.taint a).reply = s.reply := by
  unfold State.taint; split <;> rfl
@[simp] theorem State.mem_taint_tainted (s : State) (a b : Word) :
    b ∈ (s.taint a).tainted ↔ b = a ∨ b ∈ s.tainted := by
  unfold State.taint
  split
  · rename_i h
    exact ⟨Or.inr, fun hb => hb.elim (fun e => e ▸ h) id⟩
  · simp

theorem State.taint_nodup {s : State} (a : Word) (h : s.tainted.Nodup) : (s.taint a).tainted.Nodup := by
  unfold State.taint
  split
  · exact h
  · rename_i hn
    exact List.nodup_cons.mpr ⟨hn, h⟩

/-! `complete` and `raise` are the end of a command (00_scope.md R13). -/

@[simp] theorem State.complete_eq (s : State) : s.complete = s.endCommand .none := rfl

@[simp] theorem State.raise_eq (s : State) (e : ErrCode) : s.raise e = s.endCommand e := rfl

end Sys2Proof.Machine
end

