-- ==== Sys2Proof/Laws/Ops.lean ====
section
/-! SUPPORT. One inversion lemma per shared operation: everything it can answer. -/

namespace Sys2Proof.Machine

/-- A step is the engine's when nothing is scheduled, and otherwise the first event's. -/
theorem step_cases {s t : State} (h : step s = .next t) :
    (s.schedule = [] ∧ t = engineStep s) ∨
      ∃ e rest, s.schedule = e :: rest ∧ handle e (s.withSchedule rest) = .next t := by
  unfold step nextStep at h
  split at h
  · rename_i hs
    exact .inl ⟨hs, (Host.Outcome.next.inj h).symm⟩
  · rename_i e rest hs
    exact .inr ⟨e, rest, hs, h⟩

@[simp] theorem steps_zero (s : State) : steps 0 s = .next s := rfl

/-- A run takes one step and then runs on from its next state. -/
theorem steps_succ {n : Nat} {s t : State} (h : step s = .next t) : steps (n + 1) s = steps n t := by
  have e : core.step s = .next t := h
  unfold steps
  simp only [Host.Core.run, e]
  rfl

theorem step_engine {s : State} (h : s.schedule = []) : step s = .next (engineStep s) := by
  simp [step, nextStep, h]

theorem step_event {s : State} {e : Event} {rest : List Event} (h : s.schedule = e :: rest) :
    step s = handle e (s.withSchedule rest) := by
  simp [step, nextStep, h]

/-- A started or ended buffer command (42_buffer_transform.md R173, R174). -/
theorem startBuffer_cases {op : EngOp} {s t : State} (h : startBuffer op s = .next t) :
    (s.cfg.valid = false ∧ t = s.raise .notConfigured) ∨
      (s.cfg.valid = true ∧ s.rangeOk = false ∧ t = s.raise .invalidRange) ∨
      (s.cfg.valid = true ∧ s.rangeOk = true ∧ s.len = 0#32 ∧ t = (s.setCount 0#32).complete) ∨
      (s.cfg.valid = true ∧ s.rangeOk = true ∧ s.len ≠ 0#32 ∧ s.windowClear = true ∧
        t = (s.setCount 0#32).startEngine op) := by
  unfold startBuffer at h
  split at h
  · rename_i hv
    exact .inl ⟨by simpa using hv, (Host.Outcome.next.inj h).symm⟩
  · rename_i hv
    split at h
    · rename_i hr
      exact .inr (.inl ⟨by simpa using hv, by simpa using hr, (Host.Outcome.next.inj h).symm⟩)
    · rename_i hr
      split at h
      · rename_i hl
        exact .inr (.inr (.inl ⟨by simpa using hv, by simpa using hr, hl,
          (Host.Outcome.next.inj h).symm⟩))
      · rename_i hl
        split at h
        · cases h
        · rename_i hw
          exact .inr (.inr (.inr ⟨by simpa using hv, by simpa using hr, hl, by simpa using hw,
            (Host.Outcome.next.inj h).symm⟩))

/-- A buffer command is refused only where the engine would start on the block's own window
(20_memory.md R68). -/
theorem startBuffer_refused {op : EngOp} {s : State} {r : Refusal} (h : startBuffer op s = .refused r) :
    s.cfg.valid = true ∧ s.rangeOk = true ∧ s.len ≠ 0#32 ∧ s.windowClear = false ∧
      r = .rangeInWindow := by
  unfold startBuffer at h
  split at h
  · cases h
  · rename_i hv
    split at h
    · cases h
    · rename_i hr
      split at h
      · cases h
      · rename_i hl
        split at h
        · rename_i hw
          exact ⟨by simpa using hv, by simpa using hr, hl, by simpa using hw,
            (Host.Outcome.refused.inj h).symm⟩
        · cases h

/-- The result or the error of a byte command (41_byte_transform.md R147, R148). -/
theorem byteCommand_cases {op : EngOp} {x : Byte} {s t : State} (h : byteCommand op x s = .next t) :
    (s.cfg.valid = true ∧ t = (s.setResult (s.cfg.transform op x)).complete) ∨
      (s.cfg.valid = false ∧ t = s.raise .notConfigured) := by
  unfold byteCommand at h
  split at h
  · rename_i hv
    exact .inl ⟨hv, (Host.Outcome.next.inj h).symm⟩
  · rename_i hv
    exact .inr ⟨by simpa using hv, (Host.Outcome.next.inj h).symm⟩

/-- The engine is idle, stuck on an unanswered access, ends with a bus error, or moves one byte and ends
at LEN (42_buffer_transform.md R175, R181). -/
theorem engineStep_cases (s : State) :
    (s.busy = false ∧ engineStep s = s) ∨
      (s.busy = true ∧ engineStep s = s ∧
        (s.plat.answer s.readAddr .read = .silent ∨
          s.plat.answer s.readAddr .read = .ok ∧ s.plat.answer s.writeAddr .write = .silent)) ∨
      (s.busy = true ∧ s.plat.answer s.readAddr .read = .busError ∧ engineStep s = s.endReadError) ∨
      (s.busy = true ∧ s.plat.answer s.readAddr .read = .ok ∧
        s.plat.answer s.writeAddr .write = .busError ∧ engineStep s = s.endWriteError) ∨
      (s.busy = true ∧ s.plat.answer s.readAddr .read = .ok ∧
        s.plat.answer s.writeAddr .write = .ok ∧ s.moveByte.count = s.len ∧
        engineStep s = s.moveByte.settleRaces.complete) ∨
      (s.busy = true ∧ s.plat.answer s.readAddr .read = .ok ∧
        s.plat.answer s.writeAddr .write = .ok ∧ s.moveByte.count ≠ s.len ∧
        engineStep s = s.moveByte) := by
  unfold engineStep
  cases hb : s.busy <;> simp only [Bool.not_true, Bool.not_false, if_true, Bool.false_eq_true, if_false]
  · simp
  · cases hr : s.plat.answer s.readAddr .read <;> simp only
    · cases hw : s.plat.answer s.writeAddr .write <;> simp only
      · by_cases hc : s.moveByte.count = s.len <;> simp [hc]
      · simp
      · simp
    · simp
    · simp

/-- A write to a register of the window changes one register, or is lost, or issues a command
(10_state.md R23 to R39). -/
theorem writeRegister_cases {r : Reg} {v : Word} {s t : State} (h : writeRegister r v s = .next t) :
    (r = .ctrl ∧ t = s.setIe v[0]) ∨
      (r = .status ∧ t = s.acknowledge v) ∨
      (s.busy = true ∧ (r = .cmd ∨ r = .src ∨ r = .dst ∨ r = .len) ∧ t = s.overrun) ∨
      (s.busy = false ∧ r = .cmd ∧ issue v s = .next t) ∨
      (s.busy = false ∧ r = .src ∧ t = s.setSrc v) ∨
      (s.busy = false ∧ r = .dst ∧ t = s.setDst v) ∨
      (s.busy = false ∧ r = .len ∧ t = s.setLen v) ∨
      ((r = .id ∨ r = .result ∨ r = .count) ∧ t = s) := by
  cases r <;> cases hb : s.busy <;> simp [writeRegister, hb] at h <;> simp [h]

/-- An accepted write runs a command or reports INVALID_COMMAND (30_encoding.md R95, R97). -/
theorem issue_cases {w : Word} {s t : State} (h : issue w s = .next t) :
    (∃ i, decode w = .command i ∧ exec i s.accept = .next t) ∨
      (decode w = .invalid ∧ t = s.accept.raise .invalidCommand) := by
  unfold issue at h
  split at h
  · rename_i i hd
    exact .inl ⟨i, hd, h⟩
  · rename_i hd
    exact .inr ⟨hd, (Host.Outcome.next.inj h).symm⟩

/-- A host read of the window changes nothing but what the host gets back (10_state.md R23 item 6). -/
theorem hostRegRead_eq (host : Nat) (width : AccessWidth) (offset : BitVec 6) (s : State) :
    ∃ r, hostRegRead host width offset s = s.answerHost host r := by
  unfold hostRegRead
  split <;> exact ⟨_, rfl⟩

/-- A host write to the window: a bus error, a reserved offset, or a register (10_state.md R23). -/
theorem hostRegWrite_cases {host : Nat} {width : AccessWidth} {offset : BitVec 6} {v : Word}
    {s t : State} (h : hostRegWrite host width offset v s = .next t) :
    ((∀ q, selectRegister width offset ≠ .register q) ∧ ∃ r, t = s.answerHost host r) ∨
      ∃ r, selectRegister width offset = .register r ∧ writeRegister r v (s.answerHost host .ok) = .next t := by
  unfold hostRegWrite at h
  split at h
  · rename_i hr
    exact .inl ⟨by simp [hr], _, (Host.Outcome.next.inj h).symm⟩
  · rename_i hr
    exact .inl ⟨by simp [hr], _, (Host.Outcome.next.inj h).symm⟩
  · rename_i r hr
    exact .inr ⟨r, hr, h⟩

/-- A host read of memory changes nothing but the count of draws and what the host gets back. -/
theorem hostMemRead_cases (host : Nat) (cached : Bool) (a : Word) (s : State) :
    ∃ r, hostMemRead host cached a s = s.answerHost host r ∨
      hostMemRead host cached a s = s.useDraw.answerHost host r := by
  unfold hostMemRead
  split
  · exact ⟨_, .inl rfl⟩
  · split
    · exact ⟨_, .inr rfl⟩
    · exact ⟨_, .inl rfl⟩

/-- A host write of memory leaves one byte written or drawn, and opens races. -/
theorem hostMemWrite_cases (host : Nat) (cached : Bool) (a : Word) (v : Byte) (s : State) :
    hostMemWrite host cached a v s = s.answerHost host .busError ∨
      hostMemWrite host cached a v s = (hostRace a (s.setByte a v)).answerHost host .ok ∨
      hostMemWrite host cached a v s = (hostRace a (s.drawBytes [a])).answerHost host .ok := by
  unfold hostMemWrite hostStore
  split
  · exact .inl rfl
  · split
    · exact .inr (.inr rfl)
    · exact .inr (.inl rfl)

end Sys2Proof.Machine
end

