-- ==== Sys2Proof/Laws/Decode.lean ====
section
/-! SUPPORT. The command word and its fields determine each other, and decoding inverts encoding on the
fields (30_encoding.md R90, R95). -/

namespace Sys2Proof

/-- The fields of a word built from fields are those fields. -/
theorem fieldsOf_wordOf (f : CmdFields) : fieldsOf (wordOf f) = f := by
  obtain ⟨op, z1, f1, f2, z2⟩ := f
  simp only [fieldsOf, wordOf, CmdFields.mk.injEq]
  refine ⟨?_, ?_, ?_, ?_, ?_⟩ <;>
  · apply BitVec.eq_of_getLsbD_eq
    intro i hi
    simp only [BitVec.getLsbD_extractLsb', BitVec.getLsbD_append, hi, decide_true, Bool.true_and]
    repeat' split
    all_goals first | omega | (congr 1; omega)

/-- A word is the word of its fields. -/
theorem wordOf_fieldsOf (w : Word) : wordOf (fieldsOf w) = w := by
  simp only [fieldsOf, wordOf]
  apply BitVec.eq_of_getLsbD_eq
  intro i hi
  simp only [BitVec.getLsbD_extractLsb', BitVec.getLsbD_append]
  repeat' split
  all_goals
    rw [decide_eq_true (by omega)]
    simp only [Bool.true_and]
    congr 1
    omega

theorem wordOf_injective {f g : CmdFields} (h : wordOf f = wordOf g) : f = g := by
  rw [← fieldsOf_wordOf f, h, fieldsOf_wordOf]

/-- The word as a number: each field at its weight (R90). -/
theorem wordOf_toNat (f : CmdFields) : (wordOf f).toNat =
    f.z2.toNat * 0x1000000 + f.f2.toNat * 0x10000 + f.f1.toNat * 0x100 + f.z1.toNat * 0x10
      + f.op.toNat := by
  have e1 := BitVec.toNat_append (f.z2 ++ f.f2 ++ f.f1 ++ f.z1) f.op
  have e2 := BitVec.toNat_append (f.z2 ++ f.f2 ++ f.f1) f.z1
  have e3 := BitVec.toNat_append (f.z2 ++ f.f2) f.f1
  have e4 := BitVec.toNat_append f.z2 f.f2
  rw [← Nat.shiftLeft_add_eq_or_of_lt (BitVec.isLt _), Nat.shiftLeft_eq] at e1 e2 e3 e4
  have e : (wordOf f).toNat = (f.z2 ++ f.f2 ++ f.f1 ++ f.z1 ++ f.op).toNat := rfl
  rw [e, e1, e2, e3, e4]
  ring

/-- Masking a word masks each field. -/
theorem wordOf_and (f g : CmdFields) : wordOf f &&& wordOf g =
    wordOf ⟨f.op &&& g.op, f.z1 &&& g.z1, f.f1 &&& g.f1, f.f2 &&& g.f2, f.z2 &&& g.z2⟩ := by
  apply BitVec.eq_of_getLsbD_eq
  intro i hi
  simp only [wordOf, BitVec.getLsbD_and, BitVec.getLsbD_append]
  repeat' split
  all_goals rfl

/-- A word that decodes to a command has that command's fields. -/
theorem decodeFields_command {f : CmdFields} {i : Instr} (h : decodeFields f = .command i) :
    encodeFields i = f := by
  obtain ⟨op, z1, f1, f2, z2⟩ := f
  simp only [decodeFields] at h
  repeat' split at h
  all_goals cases h
  all_goals simp_all [encodeFields]

end Sys2Proof
end

