-- ==== Sys2Proof/Laws/Operands.lean ====
section
/-! SUPPORT. The operand forms as arithmetic: ranges, the window, and which register an access names. -/

namespace Sys2Proof.Machine

/-- `range_ok()` as arithmetic (42_buffer_transform.md R172). -/
theorem State.rangeOk_iff (s : State) : s.rangeOk = true ↔
    s.src.toNat + s.len.toNat ≤ 0x100000000 ∧ s.dst.toNat + s.len.toNat ≤ 0x100000000 ∧
      ¬(s.src.toNat < s.dst.toNat ∧ s.dst.toNat < s.src.toNat + s.len.toNat) := by
  simp only [State.rangeOk, Config.addressSpace, Bool.and_eq_true, Bool.not_eq_true', Bool.and_eq_false_iff,
    decide_eq_true_eq, decide_eq_false_iff_not]
  omega

/-- A range meets the window exactly when some address is in both (20_memory.md R68). -/
theorem Platform.meetsWindow_iff (p : Platform) (base n : Nat) : p.meetsWindow base n = true ↔
    ∃ a, p.regBase ≤ a ∧ a < p.regBase + 64 ∧ base ≤ a ∧ a < base + n := by
  simp only [Platform.meetsWindow, Config.windowBytes, Bool.and_eq_true, decide_eq_true_eq]
  constructor
  · intro h
    exact ⟨max p.regBase base, by omega, by omega, by omega, by omega⟩
  · rintro ⟨a, ha⟩
    omega

theorem State.windowClear_iff (s : State) : s.windowClear = true ↔
    s.plat.meetsWindow s.src.toNat s.len.toNat = false ∧
      s.plat.meetsWindow s.dst.toNat s.len.toNat = false := by
  simp [State.windowClear]

theorem State.inSource_iff (s : State) (a : Word) : s.inSource a = true ↔
    s.src.toNat ≤ a.toNat ∧ a.toNat < s.src.toNat + s.len.toNat := by
  simp [State.inSource]

theorem State.inDest_iff (s : State) (a : Word) : s.inDest a = true ↔
    s.dst.toNat ≤ a.toNat ∧ a.toNat < s.dst.toNat + s.len.toNat := by
  simp [State.inDest]

/-- An aligned 32-bit access at a register's offset names that register (10_state.md R22). -/
theorem selectRegister_offset (r : Reg) : selectRegister .w32 r.offset = .register r := by
  cases r <;> decide

/-- Any other width or an offset off a multiple of 4 is refused (10_state.md R23 item 1). -/
theorem selectRegister_bad {width : AccessWidth} {offset : BitVec 6}
    (h : width ≠ .w32 ∨ offset.toNat % 4 ≠ 0) : selectRegister width offset = .busError := by
  cases width
  case w32 =>
    have h' := h.resolve_left (by simp)
    clear h
    revert offset
    decide
  all_goals rfl

/-- The reserved offsets (10_state.md R23 item 2). -/
theorem selectRegister_reserved {offset : BitVec 6} (h : offset.toNat % 4 = 0) (h' : 0x24 ≤ offset.toNat) :
    selectRegister .w32 offset = .reserved := by
  revert offset
  decide

/-- A register is named only by a 32-bit access at its own offset. -/
theorem selectRegister_inv {width : AccessWidth} {offset : BitVec 6} {r : Reg}
    (h : selectRegister width offset = .register r) : width = .w32 ∧ offset = r.offset := by
  cases width
  case w32 =>
    refine ⟨rfl, ?_⟩
    unfold selectRegister selectOffset at h
    repeat' split at h
    all_goals cases h
    all_goals assumption
  all_goals cases h

/-- Inside a checked range the exact address sum does not wrap (42_buffer_transform.md R172). -/
theorem add_index_toNat {base len i : Word} (h : base.toNat + len.toNat ≤ 0x100000000)
    (hi : i.toNat < len.toNat) : (base + i).toNat = base.toNat + i.toNat := by
  rw [BitVec.toNat_add]
  omega

end Sys2Proof.Machine
end

