-- ==== Sys2Proof/Laws/Frames.lean ====
section
/-! SUPPORT. What the composite operations leave alone: opening races, ending a buffer command, and the
engine's step. -/

namespace Sys2Proof.Machine

/-! A host write's races touch `tainted` alone (20_memory.md R73). -/

@[simp] theorem hostRace_ie (a : Word) (s : State) : (hostRace a s).ie = s.ie := by
  unfold hostRace; split <;> split <;> simp
@[simp] theorem hostRace_busy (a : Word) (s : State) : (hostRace a s).busy = s.busy := by
  unfold hostRace; split <;> split <;> simp
@[simp] theorem hostRace_done (a : Word) (s : State) : (hostRace a s).done = s.done := by
  unfold hostRace; split <;> split <;> simp
@[simp] theorem hostRace_ovr (a : Word) (s : State) : (hostRace a s).ovr = s.ovr := by
  unfold hostRace; split <;> split <;> simp
@[simp] theorem hostRace_errcode (a : Word) (s : State) : (hostRace a s).errcode = s.errcode := by
  unfold hostRace; split <;> split <;> simp
@[simp] theorem hostRace_result (a : Word) (s : State) : (hostRace a s).result = s.result := by
  unfold hostRace; split <;> split <;> simp
@[simp] theorem hostRace_src (a : Word) (s : State) : (hostRace a s).src = s.src := by
  unfold hostRace; split <;> split <;> simp
@[simp] theorem hostRace_dst (a : Word) (s : State) : (hostRace a s).dst = s.dst := by
  unfold hostRace; split <;> split <;> simp
@[simp] theorem hostRace_len (a : Word) (s : State) : (hostRace a s).len = s.len := by
  unfold hostRace; split <;> split <;> simp
@[simp] theorem hostRace_count (a : Word) (s : State) : (hostRace a s).count = s.count := by
  unfold hostRace; split <;> split <;> simp
@[simp] theorem hostRace_cfg (a : Word) (s : State) : (hostRace a s).cfg = s.cfg := by
  unfold hostRace; split <;> split <;> simp
@[simp] theorem hostRace_engOp (a : Word) (s : State) : (hostRace a s).engOp = s.engOp := by
  unfold hostRace; split <;> split <;> simp
@[simp] theorem hostRace_mem (a : Word) (s : State) : (hostRace a s).mem = s.mem := by
  unfold hostRace; split <;> split <;> simp
@[simp] theorem hostRace_draws (a : Word) (s : State) : (hostRace a s).draws = s.draws := by
  unfold hostRace; split <;> split <;> simp
@[simp] theorem hostRace_busLog (a : Word) (s : State) : (hostRace a s).busLog = s.busLog := by
  unfold hostRace; split <;> split <;> simp
@[simp] theorem hostRace_plat (a : Word) (s : State) : (hostRace a s).plat = s.plat := by
  unfold hostRace; split <;> split <;> simp
@[simp] theorem hostRace_schedule (a : Word) (s : State) : (hostRace a s).schedule = s.schedule := by
  unfold hostRace; split <;> split <;> simp
@[simp] theorem hostRace_reply (a : Word) (s : State) : (hostRace a s).reply = s.reply := by
  unfold hostRace; split <;> split <;> simp

/-- The races a host write opens: the destination byte of its index, and its own byte (20_memory.md R73). -/
theorem mem_hostRace_tainted (a : Word) (s : State) (b : Word) : b ∈ (hostRace a s).tainted ↔
    (s.busy = true ∧ s.inDest a = true ∧ b = a) ∨
      (s.busy = true ∧ s.inSource a = true ∧ b = s.dst + (a - s.src)) ∨ b ∈ s.tainted := by
  unfold hostRace
  cases s.busy <;> cases s.inSource a <;> cases s.inDest a <;> simp

theorem hostRace_nodup (a : Word) {s : State} (h : s.tainted.Nodup) : (hostRace a s).tainted.Nodup := by
  unfold hostRace
  split <;> split <;> simp only [State.taint_nodup, h]

/-! The engine's step leaves the hosts' registers, the configuration and the direction alone
(42_buffer_transform.md R175). -/

@[simp] theorem engineStep_ie (s : State) : (engineStep s).ie = s.ie := by
  rcases engineStep_cases s with h | h | h | h | h | h <;>
    simp [h, State.endReadError, State.endWriteError, State.moveByte]
@[simp] theorem engineStep_ovr (s : State) : (engineStep s).ovr = s.ovr := by
  rcases engineStep_cases s with h | h | h | h | h | h <;>
    simp [h, State.endReadError, State.endWriteError, State.moveByte]
@[simp] theorem engineStep_result (s : State) : (engineStep s).result = s.result := by
  rcases engineStep_cases s with h | h | h | h | h | h <;>
    simp [h, State.endReadError, State.endWriteError, State.moveByte]
@[simp] theorem engineStep_src (s : State) : (engineStep s).src = s.src := by
  rcases engineStep_cases s with h | h | h | h | h | h <;>
    simp [h, State.endReadError, State.endWriteError, State.moveByte]
@[simp] theorem engineStep_dst (s : State) : (engineStep s).dst = s.dst := by
  rcases engineStep_cases s with h | h | h | h | h | h <;>
    simp [h, State.endReadError, State.endWriteError, State.moveByte]
@[simp] theorem engineStep_len (s : State) : (engineStep s).len = s.len := by
  rcases engineStep_cases s with h | h | h | h | h | h <;>
    simp [h, State.endReadError, State.endWriteError, State.moveByte]
@[simp] theorem engineStep_cfg (s : State) : (engineStep s).cfg = s.cfg := by
  rcases engineStep_cases s with h | h | h | h | h | h <;>
    simp [h, State.endReadError, State.endWriteError, State.moveByte]
@[simp] theorem engineStep_engOp (s : State) : (engineStep s).engOp = s.engOp := by
  rcases engineStep_cases s with h | h | h | h | h | h <;>
    simp [h, State.endReadError, State.endWriteError, State.moveByte]
@[simp] theorem engineStep_plat (s : State) : (engineStep s).plat = s.plat := by
  rcases engineStep_cases s with h | h | h | h | h | h <;>
    simp [h, State.endReadError, State.endWriteError, State.moveByte]
@[simp] theorem engineStep_schedule (s : State) : (engineStep s).schedule = s.schedule := by
  rcases engineStep_cases s with h | h | h | h | h | h <;>
    simp [h, State.endReadError, State.endWriteError, State.moveByte]
@[simp] theorem engineStep_reply (s : State) : (engineStep s).reply = s.reply := by
  rcases engineStep_cases s with h | h | h | h | h | h <;>
    simp [h, State.endReadError, State.endWriteError, State.moveByte]

/-! Reset gives the block its reset values and leaves the platform and what is scheduled alone
(70_reset_and_hazards.md R240); memory is drawn only where a command ran (R241). -/

@[simp] theorem resetBlock_ie (s : State) : (resetBlock s).ie = false := rfl
@[simp] theorem resetBlock_busy (s : State) : (resetBlock s).busy = false := rfl
@[simp] theorem resetBlock_done (s : State) : (resetBlock s).done = false := rfl
@[simp] theorem resetBlock_ovr (s : State) : (resetBlock s).ovr = false := rfl
@[simp] theorem resetBlock_errcode (s : State) : (resetBlock s).errcode = .none := rfl
@[simp] theorem resetBlock_result (s : State) : (resetBlock s).result = 0#8 := rfl
@[simp] theorem resetBlock_src (s : State) : (resetBlock s).src = 0#32 := rfl
@[simp] theorem resetBlock_dst (s : State) : (resetBlock s).dst = 0#32 := rfl
@[simp] theorem resetBlock_len (s : State) : (resetBlock s).len = 0#32 := rfl
@[simp] theorem resetBlock_count (s : State) : (resetBlock s).count = 0#32 := rfl
@[simp] theorem resetBlock_cfg (s : State) : (resetBlock s).cfg = Cfg.cleared := rfl
@[simp] theorem resetBlock_tainted (s : State) : (resetBlock s).tainted = [] := rfl
@[simp] theorem resetBlock_reply (s : State) : (resetBlock s).reply = none := rfl

@[simp] theorem resetBlock_busLog (s : State) : (resetBlock s).busLog = s.busLog := by
  unfold resetBlock
  cases s.busy <;> rfl

@[simp] theorem resetBlock_plat (s : State) : (resetBlock s).plat = s.plat := by
  unfold resetBlock
  cases s.busy <;> rfl

@[simp] theorem resetBlock_schedule (s : State) : (resetBlock s).schedule = s.schedule := by
  unfold resetBlock
  cases s.busy <;> rfl

theorem resetBlock_mem (s : State) : (resetBlock s).mem =
    if s.busy then s.mem.drawAll s.draws (addressRange s.dst s.len.toNat) else s.mem := by
  unfold resetBlock
  cases s.busy <;> rfl

theorem resetBlock_draws (s : State) : (resetBlock s).draws =
    if s.busy then s.draws + s.len.toNat else s.draws := by
  unfold resetBlock
  cases s.busy
  · rfl
  · simp [addressRange]

/-- Everything a step can do: the engine's step, a reset, an access that changes only what a host gets
back (and perhaps uses a free value), a host's write of a byte of memory, or an accepted write to a
register. -/
theorem step_inversion {s t : State} (h : step s = .next t) :
    (s.enginesNext ∧ ∃ rest, t = engineStep (s.withSchedule rest)) ∨
      (s.resetsNext ∧ ∃ rest, t = resetBlock (s.withSchedule rest)) ∨
      (∃ host rest r, t = (s.withSchedule rest).answerHost host r) ∨
      (∃ host rest r, t = (s.withSchedule rest).useDraw.answerHost host r) ∨
      (∃ host rest cached a v, s.schedule = .memWrite host cached a v :: rest ∧
        (t = (hostRace a ((s.withSchedule rest).setByte a v)).answerHost host .ok ∨
          t = (hostRace a ((s.withSchedule rest).drawBytes [a])).answerHost host .ok)) ∨
      (∃ host rest r v, s.schedule = .regWrite host .w32 r.offset v :: rest ∧
        writeRegister r v ((s.withSchedule rest).answerHost host .ok) = .next t) := by
  rcases step_cases h with ⟨hs, rfl⟩ | ⟨e, rest, hs, he⟩
  · exact .inl ⟨.inl hs, s.schedule, rfl⟩
  · cases e with
    | regRead host w o =>
      cases he
      obtain ⟨r, hr⟩ := hostRegRead_eq host w o (s.withSchedule rest)
      exact .inr (.inr (.inl ⟨host, rest, r, hr⟩))
    | regWrite host w o v =>
      rcases hostRegWrite_cases he with ⟨_, r, rfl⟩ | ⟨r, hr, hw⟩
      · exact .inr (.inr (.inl ⟨host, rest, r, rfl⟩))
      · obtain ⟨rfl, rfl⟩ := selectRegister_inv hr
        exact .inr (.inr (.inr (.inr (.inr ⟨host, rest, r, v, hs, hw⟩))))
    | memRead host c a =>
      cases he
      obtain ⟨r, hr | hr⟩ := hostMemRead_cases host c a (s.withSchedule rest)
      · exact .inr (.inr (.inl ⟨host, rest, r, hr⟩))
      · exact .inr (.inr (.inr (.inl ⟨host, rest, r, hr⟩)))
    | memWrite host c a v =>
      cases he
      rcases hostMemWrite_cases host c a v (s.withSchedule rest) with hr | hr | hr
      · exact .inr (.inr (.inl ⟨host, rest, _, hr⟩))
      · exact .inr (.inr (.inr (.inr (.inl ⟨host, rest, c, a, v, hs, .inl hr⟩))))
      · exact .inr (.inr (.inr (.inr (.inl ⟨host, rest, c, a, v, hs, .inr hr⟩))))
    | engine =>
      cases he
      exact .inl ⟨.inr ⟨rest, hs⟩, rest, rfl⟩
    | reset =>
      cases he
      exact .inr (.inl ⟨⟨rest, hs⟩, rest, rfl⟩)

end Sys2Proof.Machine
end

