-- ==== Sys2Proof/Laws/PerInstr.lean ====
section
/-! SUPPORT. A fact about every command, one lemma per constructor: its word satisfies the validity rules
of R92 and R94 and matches its own row of R93. -/

namespace Sys2Proof.Laws.Encoding

/-- The command's word is valid and is in its row of the opcode map. -/
def Statement (i : Instr) : Prop :=
  (fieldsOf (encode i)).wellFormed = true ∧ rowMatches i (encode i) = true

theorem mask_two_operands : (0xFF0000FF#32 : Word) = wordOf ⟨0xF#4, 0xF#4, 0#8, 0#8, 0xFF#8⟩ := by decide

theorem mask_one_operand : (0xFFFF00FF#32 : Word) = wordOf ⟨0xF#4, 0xF#4, 0#8, 0xFF#8, 0xFF#8⟩ := by decide

theorem nop : Statement .nop := by
  constructor <;> decide

theorem cfg (a b : Byte) : Statement (.cfg a b) := by
  constructor
  · rw [encode, fieldsOf_wordOf]
    simp [encodeFields, CmdFields.wellFormed, CmdFields.unusedZero]
  · have h : (0x00000001#32 : Word) = wordOf ⟨0x1#4, 0#4, 0#8, 0#8, 0#8⟩ := by decide
    simp [rowMatches, encode, encodeFields, mask_two_operands, wordOf_and, h]

theorem encb (x : Byte) : Statement (.encb x) := by
  constructor
  · rw [encode, fieldsOf_wordOf]
    simp [encodeFields, CmdFields.wellFormed, CmdFields.unusedZero]
  · have h : (0x00000002#32 : Word) = wordOf ⟨0x2#4, 0#4, 0#8, 0#8, 0#8⟩ := by decide
    simp [rowMatches, encode, encodeFields, mask_one_operand, wordOf_and, h]

theorem decb (y : Byte) : Statement (.decb y) := by
  constructor
  · rw [encode, fieldsOf_wordOf]
    simp [encodeFields, CmdFields.wellFormed, CmdFields.unusedZero]
  · have h : (0x00000003#32 : Word) = wordOf ⟨0x3#4, 0#4, 0#8, 0#8, 0#8⟩ := by decide
    simp [rowMatches, encode, encodeFields, mask_one_operand, wordOf_and, h]

theorem encbuf : Statement .encbuf := by
  constructor <;> decide

theorem decbuf : Statement .decbuf := by
  constructor <;> decide

theorem clr : Statement .clr := by
  constructor <;> decide

end Sys2Proof.Laws.Encoding
end

