-- ==== Sys2Proof/Tests/Slice0.lean ====
section
/-! SUPPORT. Tests of the model against the spec's own vectors (95_test_vectors.md), an ill-formed term
for each well-formedness check, and a witness for the hypotheses of each statement that has any. -/

namespace Sys2Proof.Tests

open Sys2Proof.Machine

/-! ### States and helpers -/

/-- `CFG 5, 8` as V1.1 gives it: `inv(5) = 205`. -/
def keyed : State := { State.reset with cfg := ⟨5#8, 8#8, 205#8, true⟩ }

/-- A running ENCBUF (V5.4): index 3 of 8, `0x1000` to `0x2000`. -/
def running : State :=
  { keyed with
    busy := true
    src := 0x1000#32
    dst := 0x2000#32
    len := 8#32
    count := 3#32
    mem := [(0x1003, 0x41#8)] }

/-- The state after an outcome, if there is one. -/
def after : Host.Outcome State Fault Refusal → Option State
  | .next t => some t
  | .fault _ => none
  | .refused _ => none

/-- One step in which host 0 writes `v` to register `r`. -/
def hostWrite (r : Reg) (v : Word) (s : State) : Option State :=
  after (step { s with schedule := [writeLine 0 r v] })

/-- What host 0 gets from one read of register `r`. -/
def hostRead (r : Reg) (s : State) : Option (Option (Nat × Reply)) :=
  (after (step { s with schedule := [readLine 0 r] })).map State.reply

/-- STATUS and RESULT after the command word `w`. -/
def reports (w : Word) (s : State) : Option (Word × Word) :=
  (hostWrite .cmd w s).map fun t => (t.readRegister .status, t.readRegister .result)

/-- STATUS after ENCBUF with these operands (V5.2). -/
def rangeStatus (src dst len : Word) (s : State) : Option Word :=
  (hostWrite .cmd 4#32 { s with src := src, dst := dst, len := len }).map fun t => t.readRegister .status

/-! ### Well-formedness: an ill-formed term for each check (30_encoding.md R92, R94, R98) -/

theorem test_reserved_opcode_ill_formed : (fieldsOf 0x00000007#32).wellFormed = false := by decide
theorem test_z1_ill_formed : (fieldsOf 0x00080511#32).wellFormed = false := by decide
theorem test_z2_ill_formed : (fieldsOf 0x01080501#32).wellFormed = false := by decide
theorem test_nop_f1_ill_formed : (fieldsOf 0x00000100#32).wellFormed = false := by decide
theorem test_clr_f2_ill_formed : (fieldsOf 0x00010006#32).wellFormed = false := by decide
theorem test_encb_f2_ill_formed : (fieldsOf 0x00014102#32).wellFormed = false := by decide
theorem test_cfg_both_operands_well_formed : (fieldsOf 0x00FFFF01#32).wellFormed = true := by decide
theorem test_asm_operand_ill_formed :
    [Asm.cfg 256 0, .cfg 1 (-1), .encb 256, .decb (-1)].map Asm.wellFormed = [false, false, false, false] := by
  decide
theorem test_cfgi_takes_any_integer : (Asm.cfgi (-3) 300).wellFormed = true := by decide

/-! ### Decoding: words written out from R90 to R93, `Z2 F2 F1 Z1 OP` -/

theorem test_decode_nop : decode 0b00000000000000000000000000000000#32 = .command .nop := by decide
theorem test_decode_cfg :
    decode 0b00000000001011001111110100000001#32 = .command (.cfg 253#8 44#8) := by decide
theorem test_decode_encb :
    decode 0b00000000000000000100000100000010#32 = .command (.encb 0x41#8) := by decide
theorem test_decode_decb :
    decode 0b00000000000000001101001100000011#32 = .command (.decb 0xD3#8) := by decide
theorem test_decode_encbuf : decode 0b00000000000000000000000000000100#32 = .command .encbuf := by decide
theorem test_decode_decbuf : decode 0b00000000000000000000000000000101#32 = .command .decbuf := by decide
theorem test_decode_clr : decode 0b00000000000000000000000000000110#32 = .command .clr := by decide
theorem test_decode_table_word : decodeTableWord 32 0x00080501 = some (.cfg 5#8 8#8) := by decide
theorem test_cfgi_word :
    assemble 0 0 (.cfgi (-3) 300) = some [.regWrite 0 .w32 0x0C#6 0x002CFD01#32] := by decide
theorem test_enc_line_length : (assemble 0 2 (.enc 0x1000#32 0x1800#32 2#32)).map List.length = some 7 := by
  decide

/-! ### The arithmetic tables (95_test_vectors.md sections 2 and 4) -/

theorem test_inverse_table :
    [3#8, 5#8, 7#8, 85#8, 87#8, 127#8, 129#8, 253#8, 255#8].map inverse =
      [171#8, 205#8, 183#8, 253#8, 103#8, 127#8, 129#8, 85#8, 255#8] := by decide
theorem test_euclid_table :
    [3#8, 5#8, 87#8, 253#8].map euclidInverse = [171#8, 205#8, 103#8, 85#8] := by decide

/-! ### Single commands (V1.1, V3, V4.3, V4.4) -/

theorem test_nop_after_error :
    reports 0x00000000#32 { State.reset with errcode := .invalidParameters, done := true } =
      some (0x4#32, 0#32) := by decide
theorem test_nop_with_f1 : reports 0x00000100#32 keyed = some (0x30E#32, 0#32) := by decide
theorem test_cfg_latches :
    (hostWrite .cmd 0x00010701#32 { keyed with result := 0x4D#8 }).map
      (fun t => (t.cfg, t.readRegister .status, t.result)) =
      some (⟨7#8, 1#8, 183#8, true⟩, 0x6#32, 0x4D#8) := by decide
theorem test_cfg_even_discards :
    (hostWrite .cmd 0x00010601#32 { keyed with result := 0x4D#8 }).map
      (fun t => (t.cfg, t.readRegister .status, t.result)) =
      some (⟨0#8, 0#8, 0#8, false⟩, 0x10C#32, 0#8) := by decide
theorem test_encb_vector : reports 0x00004102#32 keyed = some (0x6#32, 0x4D#32) := by decide
theorem test_encb_not_configured : reports 0x00004102#32 State.reset = some (0x20C#32, 0#32) := by decide
theorem test_decb_vector : reports 0x00004D03#32 keyed = some (0x6#32, 0x41#32) := by decide
theorem test_decb_below_addend : reports 0x00000703#32 keyed = some (0x6#32, 0x33#32) := by decide
theorem test_clr_vector :
    reports 0x00000006#32 { keyed with result := 0x4D#8 } = some (0x4#32, 0#32) := by decide
theorem test_clr_with_f1_keeps_cfg :
    (hostWrite .cmd 0x00000106#32 keyed).map (fun t => (t.cfg.valid, t.readRegister .status)) =
      some (true, 0x30E#32) := by decide
theorem test_accept_clears_error_of_a_started_buffer :
    (hostWrite .cmd 4#32 { keyed with len := 1#32, errcode := .invalidCommand, done := true }).map
      (fun t => t.readRegister .status) = some 0x3#32 := by decide

/-! ### Buffer commands (V5.2, V5.3) -/

theorem test_range_check_accepts :
    [rangeStatus 0x1000#32 0x1000#32 8#32 keyed, rangeStatus 0x1000#32 0x0FFC#32 8#32 keyed,
      rangeStatus 0x1000#32 0x1008#32 8#32 keyed, rangeStatus 0xFFFFFFFC#32 0x6000#32 4#32 keyed,
      rangeStatus 0xFFFFFFFF#32 0xFFFFFFFF#32 0#32 keyed] =
      [some 3#32, some 3#32, some 3#32, some 3#32, some 6#32] := by decide
theorem test_range_check_refuses :
    [rangeStatus 0x1000#32 0x1004#32 8#32 keyed, rangeStatus 0x1000#32 0x1001#32 2#32 keyed,
      rangeStatus 0xFFFFFFFC#32 0x6000#32 5#32 keyed, rangeStatus 0x6000#32 0xFFFFFFFF#32 2#32 keyed,
      rangeStatus 0#32 0x10000000#32 0xFFFFFFFF#32 keyed,
      rangeStatus 0#32 0x10000000#32 0xFFFFFFFF#32 State.reset] =
      [some 0x40E#32, some 0x40E#32, some 0x40E#32, some 0x40E#32, some 0x40E#32, some 0x20C#32] := by decide
theorem test_encbuf_byte :
    (after (step running)).map (fun t => (t.mem.read 0x2003, t.count, t.readRegister .status)) =
      some (0x4D#8, 4#32, 3#32) := by decide
theorem test_decbuf_last_byte_in_place :
    (after (step { running with engOp := .dec, dst := 0x1000#32, count := 7#32, mem := [(0x1007, 0x24#8)] })).map
      (fun t => (t.mem.read 0x1007, t.count, t.readRegister .status)) = some (0x6C#8, 8#32, 6#32) := by decide
theorem test_decbuf_read_error :
    (after (step { running with
      engOp := .dec
      plat := { Platform.atReset with regions := [⟨0x1003, 1, .read, .busError⟩] } })).map
      (fun t => (t.mem, t.count, t.readRegister .status)) = some ([(0x1003, 0x41#8)], 3#32, 0x50E#32) := by
  decide
theorem test_write_error_status :
    (after (step { running with
      plat := { Platform.atReset with regions := [⟨0x2003, 1, .write, .busError⟩] } })).map
      (fun t => (t.count, t.readRegister .status)) = some (3#32, 0x60E#32) := by decide

/-! ### The window, busy writes, the interrupt and reset (V5.4, V5.5, V5.6, P5) -/

theorem test_busy_writes :
    [hostWrite .cmd 6#32 running, hostWrite .len 1#32 running, hostWrite .src 9#32 running,
      hostWrite .dst 9#32 running].map (Option.map fun t => (t.readRegister .status, t.readRegister .len)) =
      [some (0x13#32, 8#32), some (0x13#32, 8#32), some (0x13#32, 8#32), some (0x13#32, 8#32)] := by decide
theorem test_ctrl_reserved_bits :
    (hostWrite .ctrl 0xFFFFFFFF#32 State.reset).map (fun t => t.readRegister .ctrl) = some 1#32 := by decide
theorem test_status_write :
    (hostWrite .status 0xFFFFFFFF#32 { keyed with done := true, ovr := true, errcode := .invalidRange }).map
      (fun t => t.readRegister .status) = some 0x40A#32 := by decide
theorem test_id_read : hostRead .id State.reset = some (some (0, .word 0x41464254#32)) := by decide
theorem test_narrow_access :
    (after (step { keyed with schedule := [.regWrite 0 .w8 0x0C#6 6#32] })).map
      (fun t => (t.reply, t.cfg.valid)) = some (some (0, .busError), true) := by decide
theorem test_misaligned_read :
    (after (step { keyed with schedule := [.regRead 0 .w32 0x02#6] })).map State.reply =
      some (some (0, .busError)) := by decide
theorem test_irq :
    (hostWrite .cmd 0x00100301#32 { State.reset with ie := true }).map State.irq = some true := by decide
theorem test_reset_keeps_source :
    (after (step { running with schedule := [.reset] })).map
      (fun t => (t.readRegister .status, t.mem.read 0x1003, t.draws)) = some (0#32, 0x41#8, 8) := by decide
theorem test_first_step_after_reset :
    (after (step (State.reset.withFetchWord 32 0x00080501))).map (fun t => t.cfg) =
      some ⟨5#8, 8#8, 205#8, true⟩ := by decide

/-! ### Witnesses: what meets the hypotheses of each statement that has any, clause by clause -/

/-- The same state with one event scheduled. -/
def scheduled (e : Event) (s : State) : State := { s with schedule := [e] }

/-- The next step writes `v` to `r`. -/
def writing (r : Reg) (v : Word) (s : State) : State := scheduled (writeLine 0 r v) s

/-- A platform with one region that does not answer `ok`. -/
def failing (base : Nat) (kind : AccessKind) (answer : Answer) : Platform :=
  { Platform.atReset with regions := [⟨base, 1, kind, answer⟩] }

theorem writing_writesNext (r : Reg) (v : Word) (s : State) : (writing r v s).writesNext r v :=
  ⟨0, [], rfl⟩

theorem writing_acceptsNext {w : Word} {s : State} {i : Instr} (hb : s.busy = false)
    (hd : decode w = .command i) : (writing .cmd w s).acceptsNext i :=
  ⟨hb, w, writing_writesNext .cmd w s, hd⟩

theorem witness_DecodedWordIsItsEncoding :
    decode 0x00FFFF01#32 = .command (.cfg 255#8 255#8) ∧ decode 0x00000002#32 = .command (.encb 0#8) := by
  decide

theorem witness_OpcodeMapDecidesCommand :
    rowMatches (.encb 0#8) 0x0000FF02#32 = true ∧ rowMatches (.encb 1#8) 0x0000FF02#32 = true ∧
      decode 0x00FF0001#32 = .command (.cfg 0#8 255#8) ∧ decode 0x0000FF02#32 = .command (.encb 255#8) ∧
      decode 0x0000FF03#32 = .command (.decb 255#8) := by decide

theorem witness_InvalidWordsReportInvalidCommand :
    [0x00000007#32, 0x0000000F#32, 0x00000010#32, 0x01000000#32, 0x00000100#32, 0x00010000#32,
      0x00010004#32, 0x00000106#32, 0x00010002#32, 0x00010003#32].map decode =
      List.replicate 10 .invalid := by decide

theorem witness_AssemblerChecksOperands :
    ((0 : Int) ≤ 0 ∧ (0 : Int) ≤ 255 ∧ (0 : Int) ≤ 255 ∧ (255 : Int) ≤ 255) ∧
      ¬((0 : Int) ≤ -1 ∧ (-1 : Int) ≤ 255) ∧ ¬((0 : Int) ≤ 256 ∧ (256 : Int) ≤ 255) := by decide

theorem witness_InverseIsTheUniqueResidue :
    validMultiplier 1#8 = true ∧ validMultiplier 3#8 = true ∧ validMultiplier 127#8 = true ∧
      validMultiplier 129#8 = true ∧ validMultiplier 255#8 = true := by decide

theorem witness_ByteRoundTrip :
    keyed.cfg.valid = true ∧ keyed.cfg.Consistent ∧
      (Cfg.mk 255#8 255#8 255#8 true).Consistent := by decide

theorem witness_TransformsAreBijections :
    keyed.cfg.valid = true ∧ keyed.cfg.Consistent ∧ (0#8 : Byte).toNat % 2 = 0 ∧
      (254#8 : Byte).toNat % 2 = 0 := by decide

theorem witness_BufferRoundTrip : keyed.cfg.valid = true ∧ keyed.cfg.Consistent := by decide

theorem witness_CfgConstructsOrDiscards :
    ((1#8 : Byte).toNat % 2 = 1 ∧ (255#8 : Byte).toNat % 2 = 1 ∧ (0#8 : Byte).toNat % 2 = 0 ∧
        (254#8 : Byte).toNat % 2 = 0) ∧
      decode 0x00080501#32 = .command (.cfg 5#8 8#8) ∧
      (writing .cmd 0x00080501#32 running).busy = true ∧
      (writing .cmd 0x00080501#32 running).writesNext .cmd 0x00080501#32 :=
  ⟨by decide, by decide, rfl, writing_writesNext _ _ _⟩

theorem witness_ClrDiscards :
    (writing .cmd 6#32 running).busy = true ∧ (writing .cmd 6#32 running).writesNext .cmd 6#32 :=
  ⟨rfl, writing_writesNext _ _ _⟩

theorem witness_EncbLeavesEncryptedByte : keyed.cfg.valid = true ∧ State.reset.cfg.valid = false := by decide

theorem witness_DecbLeavesDecryptedByte : keyed.cfg.valid = true ∧ State.reset.cfg.valid = false := by decide

/-- The operands of a buffer command in a configured, idle block. -/
def buffers (src dst len : Word) : State := { keyed with src := src, dst := dst, len := len }

theorem witness_BufferChecksComeInOrder :
    State.reset.cfg.valid = false ∧ (buffers 0xFFFFFFFC#32 0x6000#32 5#32).cfg.valid = true ∧
      0x100000000 < (buffers 0xFFFFFFFC#32 0x6000#32 5#32).src.toNat + 5 ∧
      0x100000000 < (buffers 0x6000#32 0xFFFFFFFF#32 2#32).dst.toNat + 2 ∧
      (buffers 0x1000#32 0x1001#32 2#32).src.toNat < (buffers 0x1000#32 0x1001#32 2#32).dst.toNat ∧
      (buffers 0x1000#32 0x1001#32 2#32).dst.toNat < (buffers 0x1000#32 0x1001#32 2#32).src.toNat + 2 := by
  decide

theorem witness_BufferCommandStartsTheEngine_empty :
    let s := buffers 0xFFFFFFFF#32 0xFFFFFFFF#32 0#32
    s.cfg.valid = true ∧ s.src.toNat + s.len.toNat ≤ 0x100000000 ∧
      s.dst.toNat + s.len.toNat ≤ 0x100000000 ∧
      ¬(s.src.toNat < s.dst.toNat ∧ s.dst.toNat < s.src.toNat + s.len.toNat) ∧ s.len = 0#32 := by decide

theorem witness_BufferCommandStartsTheEngine_runs :
    let s := buffers 0xFFFFFFFC#32 0x6000#32 4#32
    s.cfg.valid = true ∧ s.src.toNat + s.len.toNat ≤ 0x100000000 ∧
      s.dst.toNat + s.len.toNat ≤ 0x100000000 ∧
      ¬(s.src.toNat < s.dst.toNat ∧ s.dst.toNat < s.src.toNat + s.len.toNat) ∧ s.len ≠ 0#32 ∧
      s.windowClear = true := by decide

/-- The first and the last byte of the window are refused; the bytes beside it are not. -/
theorem witness_OnlyWindowRangesAreRefused :
    exec .encbuf (buffers 0x40000000#32 0x1000#32 1#32) = .refused .rangeInWindow ∧
      exec .decbuf (buffers 0x1000#32 0x4000003F#32 1#32) = .refused .rangeInWindow ∧
      (after (exec .encbuf (buffers 0x3FFFFFFF#32 0x40000040#32 1#32))).isSome = true :=
  ⟨rfl, rfl, by decide⟩

theorem witness_CommandsKeepTheirFrame :
    (∃ t, exec .nop keyed = .next t) ∧ (∃ t, exec (.cfg 4#8 8#8) keyed = .next t) ∧
      (∃ t, exec (.encb 0#8) keyed = .next t) ∧ (∃ t, exec (.decb 0#8) keyed = .next t) ∧
      (∃ t, exec .encbuf (buffers 0x1000#32 0x2000#32 1#32) = .next t) ∧
      (∃ t, exec .decbuf (buffers 0x1000#32 0x2000#32 1#32) = .next t) ∧
      (∃ t, exec .clr keyed = .next t) :=
  ⟨⟨_, rfl⟩, ⟨_, rfl⟩, ⟨_, rfl⟩, ⟨_, rfl⟩, ⟨_, rfl⟩, ⟨_, rfl⟩, ⟨_, rfl⟩⟩

theorem witness_CommandsEndOrStartInTheWrite :
    (∃ t, (writing .cmd 6#32 keyed).acceptsNext .clr ∧ step (writing .cmd 6#32 keyed) = .next t) ∧
      ∃ t, (writing .cmd 4#32 (buffers 0#32 9#32 1#32)).acceptsNext .encbuf ∧
        step (writing .cmd 4#32 (buffers 0#32 9#32 1#32)) = .next t :=
  ⟨⟨_, writing_acceptsNext rfl (by decide), rfl⟩, ⟨_, writing_acceptsNext rfl (by decide), rfl⟩⟩

theorem witness_StepRunsTheDecodedCommand :
    (writing .cmd 0x00080501#32 keyed).schedule = [.regWrite 0 .w32 0x0C#6 0x00080501#32] ∧
      (writing .cmd 0x00080501#32 keyed).busy = false ∧
      decode 0x00080501#32 = .command (.cfg 5#8 8#8) := by decide

theorem witness_BusyWritesAreLost :
    (writing .len 1#32 running).busy = true ∧
      (writing .len 1#32 running).schedule = [.regWrite 0 .w32 Reg.len.offset 1#32] ∧
      (writing .ctrl 1#32 running).schedule = [.regWrite 0 .w32 0x04#6 1#32] ∧
      (writing .status 0x14#32 running).schedule = [.regWrite 0 .w32 0x08#6 0x14#32] ∧
      Reg.id ≠ .status ∧ (writing .cmd 6#32 keyed).busy = false ∧
      (writing .cmd 6#32 keyed).schedule = [.regWrite 0 .w32 0x0C#6 6#32] ∧
      (writing .len 1#32 keyed).schedule = [.regWrite 0 .w32 0x1C#6 1#32] := by decide

theorem witness_OperandRegistersHoldTheirValue :
    (writing .len 0xFFFFFFFF#32 keyed).busy = false ∧
      (writing .len 0xFFFFFFFF#32 keyed).schedule =
        [.regWrite 0 .w32 Reg.len.offset 0xFFFFFFFF#32] := by decide

theorem witness_WindowAccessRules_refused :
    (scheduled (.regRead 0 .w8 0x00#6) keyed).schedule = [.regRead 0 .w8 0x00#6] ∧
      AccessWidth.w8 ≠ .w32 ∧ (0x3E#6 : BitVec 6).toNat % 4 ≠ 0 ∧
      (scheduled (.regWrite 0 .w32 0x3E#6 0#32) keyed).schedule = [.regWrite 0 .w32 0x3E#6 0#32] := by
  decide

theorem witness_WindowAccessRules_reserved :
    (0x24#6 : BitVec 6).toNat % 4 = 0 ∧ 0x24 ≤ (0x24#6 : BitVec 6).toNat ∧
      (0x3C#6 : BitVec 6).toNat % 4 = 0 ∧ 0x24 ≤ (0x3C#6 : BitVec 6).toNat ∧
      (scheduled (.regRead 0 .w32 0x24#6) keyed).schedule = [.regRead 0 .w32 0x24#6] ∧
      (scheduled (.regWrite 0 .w32 0x3C#6 1#32) keyed).schedule = [.regWrite 0 .w32 0x3C#6 1#32] := by
  decide

theorem witness_WindowAccessRules_registers :
    (writing .count 1#32 keyed).schedule = [.regWrite 0 .w32 Reg.count.offset 1#32] ∧
      (scheduled (readLine 0 .cmd) keyed).schedule = [.regRead 0 .w32 Reg.cmd.offset] ∧
      (0xFFFFFFFE#32 : Word) &&& 0x1#32 = 0#32 &&& 0x1#32 ∧
      (0xFFFFF0E0#32 : Word) &&& 0xF1F#32 = 0#32 &&& 0xF1F#32 := by decide

theorem witness_IdReadsTheConstant :
    (scheduled (readLine 0 .id) keyed).schedule = [.regRead 0 .w32 0x00#6] ∧
      (writing .id 1#32 keyed).schedule = [.regWrite 0 .w32 0x00#6 1#32] := by decide

theorem witness_StatusLayoutAndWrite :
    (writing .status 0x14#32 running).writesNext .status 0x14#32 := writing_writesNext _ _ _

theorem witness_IrqFollowsEnableAndDone :
    ((0x4#32 : Word)[2] = true ∧ (writing .status 4#32 keyed).writesNext .status 4#32) ∧
      (writing .ctrl 1#32 keyed).writesNext .ctrl 1#32 :=
  ⟨⟨by decide, writing_writesNext _ _ _⟩, writing_writesNext _ _ _⟩

theorem witness_CtrlChangesOnlyByHostOrReset :
    (∃ t, step (writing .ctrl 1#32 keyed) = .next t ∧ t.ie ≠ keyed.ie) ∧
      (writing .ctrl 1#32 running).writesNext .ctrl 1#32 ∧
      (∃ t, step (scheduled .reset { keyed with ie := true }) = .next t ∧ t.ie ≠ true) ∧
      (scheduled .reset { keyed with ie := true }).resetsNext :=
  ⟨⟨_, rfl, by decide⟩, writing_writesNext _ _ _, ⟨_, rfl, by decide⟩, [], rfl⟩

theorem witness_ConfiguredChangesOnlyByCfgClrReset :
    (∃ t, step (writing .cmd 0x00080501#32 State.reset) = .next t ∧ State.reset.cfg.valid = false ∧
        t.cfg.valid = true) ∧
      (∃ t, step (writing .cmd 0x00080401#32 keyed) = .next t ∧ keyed.cfg.valid = true ∧
        t.cfg.valid = false) ∧
      (∃ t, step (writing .cmd 6#32 keyed) = .next t ∧ t.cfg.valid = false) ∧
      (∃ t, step (scheduled .reset keyed) = .next t ∧ t.cfg.valid = false) ∧
      (writing .cmd 0x00080501#32 State.reset).acceptsNext (.cfg 5#8 8#8) ∧
      (writing .cmd 6#32 keyed).acceptsNext .clr :=
  ⟨⟨_, rfl, by decide⟩, ⟨_, rfl, by decide⟩, ⟨_, rfl, by decide⟩, ⟨_, rfl, by decide⟩,
    writing_acceptsNext rfl (by decide), writing_acceptsNext rfl (by decide)⟩

theorem witness_DoneIsClearedOnlyBy :
    (∃ t, step (writing .status 4#32 { keyed with done := true }) = .next t ∧ t.done = false) ∧
      (∃ t, step (writing .cmd 4#32 { buffers 0#32 9#32 1#32 with done := true }) = .next t ∧
        t.done = false) ∧
      (∃ t, step (scheduled .reset { keyed with done := true }) = .next t ∧ t.done = false) ∧
      ((writing .cmd 6#32 running).busy = true ∧ (writing .cmd 6#32 running).writesNext .cmd 6#32) ∧
      ((writing .cmd 7#32 keyed).busy = false ∧ (writing .cmd 7#32 keyed).writesNext .cmd 7#32) ∧
      ∃ t, step { running with count := 7#32 } = .next t ∧ t.busy = false :=
  ⟨⟨_, rfl, by decide⟩, ⟨_, rfl, by decide⟩, ⟨_, rfl, by decide⟩, ⟨rfl, writing_writesNext _ _ _⟩,
    ⟨rfl, writing_writesNext _ _ _⟩, _, rfl, by decide⟩

theorem witness_OvrIsSetAndClearedOnlyBy :
    (∃ t, step (writing .len 1#32 running) = .next t ∧ running.ovr = false ∧ t.ovr = true) ∧
      ∃ t, step (writing .status 0x10#32 { running with ovr := true }) = .next t ∧ t.ovr = false :=
  ⟨⟨_, rfl, by decide⟩, ⟨_, rfl, by decide⟩⟩

theorem witness_ResultChangesOnlyBy :
    (∃ t, step (writing .cmd 0x00004102#32 keyed) = .next t ∧ t.result ≠ 0#8) ∧
      (∃ t, step (writing .cmd 0x00004D03#32 keyed) = .next t ∧ t.result ≠ 0#8) ∧
      (∃ t, step (writing .cmd 6#32 { keyed with result := 1#8 }) = .next t ∧ t.result ≠ 1#8) ∧
      (∃ t, step (writing .cmd 1#32 { keyed with result := 1#8 }) = .next t ∧ t.result ≠ 1#8) ∧
      ∃ t, step (scheduled .reset { keyed with result := 1#8 }) = .next t ∧ t.result ≠ 1#8 :=
  ⟨⟨_, rfl, by decide⟩, ⟨_, rfl, by decide⟩, ⟨_, rfl, by decide⟩, ⟨_, rfl, by decide⟩, ⟨_, rfl, by decide⟩⟩

theorem witness_ErrcodeChangesOnlyBy :
    (∃ t, step (writing .cmd 7#32 keyed) = .next t ∧ t.errcode ≠ keyed.errcode) ∧
      (∃ t, step { running with
          plat := { Platform.atReset with regions := [⟨0x1003, 1, .read, .busError⟩] } } = .next t ∧
        t.errcode ≠ running.errcode) ∧
      (∃ t, step (scheduled .reset { keyed with errcode := .invalidRange }) = .next t ∧
        t.errcode ≠ .invalidRange) ∧
      ∃ t, step (writing .cmd 4#32 (buffers 0#32 9#32 1#32)) = .next t ∧ t.busy = true :=
  ⟨⟨_, rfl, by decide⟩, ⟨_, rfl, by decide⟩, ⟨_, rfl, by decide⟩, ⟨_, rfl, by decide⟩⟩

theorem witness_CountChangesOnlyBy :
    (∃ t, step (writing .cmd 5#32 { keyed with count := 2#32 }) = .next t ∧ t.count ≠ 2#32) ∧
      (∃ t, step running = .next t ∧ t.count ≠ running.count) ∧
      ∃ t, step (scheduled .reset running) = .next t ∧ t.count ≠ running.count :=
  ⟨⟨_, rfl, by decide⟩, ⟨_, rfl, by decide⟩, ⟨_, rfl, by decide⟩⟩

theorem witness_RunningCommandIsNotInterrupted :
    running.busy = true ∧ (∃ t, step (writing .cmd 6#32 running) = .next t) ∧
      ¬(writing .cmd 6#32 running).resetsNext ∧ ¬(writing .cmd 6#32 running).enginesNext ∧
      (∃ t, step (writing .cmd 4#32 (buffers 0#32 9#32 1#32)) = .next t ∧ t.busy = true) ∧
      (scheduled .reset running).resetsNext ∧
      ∃ t, step { running with count := 7#32 } = .next t ∧ t.busy = false := by
  refine ⟨rfl, ⟨_, rfl⟩, ?_, ?_, ⟨_, rfl, by decide⟩, ⟨[], rfl⟩, _, rfl, by decide⟩
  · rintro ⟨_, h⟩
    cases h
  · rintro (h | ⟨_, h⟩) <;> cases h

theorem witness_EngineAccessesStayInRange :
    running.Inv ∧ ∃ t, step running = .next t ∧ t.busLog ≠ running.busLog :=
  ⟨by decide, _, rfl, by decide⟩

theorem witness_MemoryChangesOnlyBy :
    (keyed.Inv ∧ ∃ t, step (scheduled (.memWrite 0 false 9#32 1#8) keyed) = .next t ∧
        t.mem.read (9#32 : Word).toNat ≠ keyed.mem.read (9#32 : Word).toNat) ∧
      running.Inv ∧ ∃ t, step running = .next t ∧
        t.mem.read (0x2003#32 : Word).toNat ≠ running.mem.read (0x2003#32 : Word).toNat :=
  ⟨⟨by decide, _, rfl, by decide⟩, by decide, _, rfl, by decide⟩

theorem witness_KeyIsSeenOnlyThroughTransforms :
    (Cfg.mk 3#8 16#8 171#8 true).valid = keyed.cfg.valid ∧
      ¬((writing .cmd 6#32 keyed).busy = true ∧ (writing .cmd 6#32 keyed).enginesNext) ∧
      (∀ x, ¬(writing .cmd 6#32 keyed).acceptsNext (.encb x)) ∧
      (∀ y, ¬(writing .cmd 6#32 keyed).acceptsNext (.decb y)) ∧
      ∃ t, step (writing .cmd 6#32 keyed) = .next t := by
  have h : decode 6#32 = .command .clr := by decide
  refine ⟨rfl, fun hb => Bool.noConfusion hb.1, ?_, ?_, _, rfl⟩ <;>
  · rintro _ ⟨_, _, ⟨_, _, hs⟩, hd⟩
    cases hs
    rw [h] at hd
    cases hd

theorem witness_HostNumberDoesNotMatter :
    (∃ t, (writing .src 1#32 keyed).schedule = [.regWrite 0 .w32 0x14#6 1#32] ∧
        step (writing .src 1#32 keyed) = .next t) ∧
      ∃ t, (scheduled (readLine 0 .src) keyed).schedule = [.regRead 0 .w32 0x14#6] ∧
        step (scheduled (readLine 0 .src) keyed) = .next t :=
  ⟨⟨_, rfl, rfl⟩, ⟨_, rfl, rfl⟩⟩

/-- `running` at its last index. -/
def lastIndex : State := { running with count := 7#32 }

theorem witness_EngineStepMovesOneByte :
    (running.Inv ∧ running.busy = true ∧ running.plat.answer running.readAddr .read = .ok ∧
        running.plat.answer running.writeAddr .write = .ok ∧
        running.count.toNat + 1 ≠ running.len.toNat ∧ running.writeAddr ∉ running.tainted) ∧
      lastIndex.Inv ∧ lastIndex.plat.answer lastIndex.readAddr .read = .ok ∧
        lastIndex.plat.answer lastIndex.writeAddr .write = .ok ∧
        lastIndex.count.toNat + 1 = lastIndex.len.toNat := by
  refine ⟨⟨by decide, rfl, by decide, by decide, by decide, by decide⟩, by decide, by decide, by decide, by decide⟩

/-- `running` on a platform where one access is not answered `ok`. -/
def runningOn (base : Nat) (kind : AccessKind) (answer : Answer) : State :=
  { running with plat := failing base kind answer }

theorem witness_BusErrorsEndTheCommand :
    ((runningOn 0x1003 .read .busError).Inv ∧ (runningOn 0x1003 .read .busError).busy = true ∧
        (runningOn 0x1003 .read .busError).plat.answer
          (runningOn 0x1003 .read .busError).readAddr .read = .busError) ∧
      (runningOn 0x2003 .write .busError).Inv ∧
        (runningOn 0x2003 .write .busError).plat.answer
          (runningOn 0x2003 .write .busError).readAddr .read = .ok ∧
        (runningOn 0x2003 .write .busError).plat.answer
          (runningOn 0x2003 .write .busError).writeAddr .write = .busError := by decide

/-- Overlapping buffers that end at the top of memory, below a backward destination. -/
def topBuffers : State := buffers 0xFFFFFFFC#32 0xFFFFFFFA#32 4#32

theorem witness_BufferCommandTransformsItsRange :
    topBuffers.Inv ∧ topBuffers.busy = false ∧ topBuffers.schedule = [] ∧ topBuffers.cfg.valid = true ∧
      topBuffers.rangeOk = true ∧ topBuffers.len ≠ 0#32 ∧ topBuffers.windowClear = true ∧
      topBuffers.AccessesOk 0 topBuffers.len.toNat := by
  refine ⟨by decide, rfl, rfl, rfl, by decide, by decide, by decide, fun j _ _ => ⟨rfl, rfl⟩⟩

/-- `topBuffers` on a platform where one access gets a bus error. -/
def failingBuffers (base : Nat) (kind : AccessKind) : State :=
  { topBuffers with plat := failing base kind .busError }

theorem witness_BusErrorLeavesAPrefix_read :
    (failingBuffers 0xFFFFFFFD .read).Inv ∧ (failingBuffers 0xFFFFFFFD .read).busy = false ∧
      (failingBuffers 0xFFFFFFFD .read).schedule = [] ∧
      (failingBuffers 0xFFFFFFFD .read).cfg.valid = true ∧
      (failingBuffers 0xFFFFFFFD .read).rangeOk = true ∧
      1 < (failingBuffers 0xFFFFFFFD .read).len.toNat ∧
      (failingBuffers 0xFFFFFFFD .read).windowClear = true ∧
      (failingBuffers 0xFFFFFFFD .read).AccessesOk 0 1 ∧
      (failingBuffers 0xFFFFFFFD .read).plat.answer
        ((failingBuffers 0xFFFFFFFD .read).src + BitVec.ofNat 32 1) .read = .busError := by
  refine ⟨by decide, rfl, rfl, rfl, by decide, by decide, by decide, ?_, by decide⟩
  intro j _ hj
  obtain rfl : j = 0 := by omega
  decide

theorem witness_BusErrorLeavesAPrefix_write :
    (failingBuffers 0xFFFFFFFA .write).Inv ∧ (failingBuffers 0xFFFFFFFA .write).busy = false ∧
      (failingBuffers 0xFFFFFFFA .write).schedule = [] ∧
      (failingBuffers 0xFFFFFFFA .write).cfg.valid = true ∧
      (failingBuffers 0xFFFFFFFA .write).rangeOk = true ∧
      0 < (failingBuffers 0xFFFFFFFA .write).len.toNat ∧
      (failingBuffers 0xFFFFFFFA .write).windowClear = true ∧
      (failingBuffers 0xFFFFFFFA .write).AccessesOk 0 0 ∧
      (failingBuffers 0xFFFFFFFA .write).plat.answer
        ((failingBuffers 0xFFFFFFFA .write).src + BitVec.ofNat 32 0) .read = .ok ∧
      (failingBuffers 0xFFFFFFFA .write).plat.answer
        ((failingBuffers 0xFFFFFFFA .write).dst + BitVec.ofNat 32 0) .write = .busError := by
  refine ⟨by decide, rfl, rfl, rfl, by decide, by decide, by decide, ?_, by decide, by decide⟩
  intro j _ hj
  omega

theorem witness_QuiescentOrStuckBlockStays :
    (keyed.schedule = [] ∧ keyed.busy = false) ∧
      ((runningOn 0x1003 .read .silent).schedule = [] ∧ (runningOn 0x1003 .read .silent).busy = true ∧
        (runningOn 0x1003 .read .silent).plat.answer
          (runningOn 0x1003 .read .silent).readAddr .read = .silent) ∧
      (runningOn 0x2003 .write .silent).plat.answer
          (runningOn 0x2003 .write .silent).readAddr .read = .ok ∧
        (runningOn 0x2003 .write .silent).plat.answer
          (runningOn 0x2003 .write .silent).writeAddr .write = .silent := by decide

theorem witness_RacedBytesBecomeDraws_read :
    (scheduled (.memRead 0 false 0x2007#32) running).busy = true ∧
      running.inDest 0x2007#32 = true ∧ running.plat.inWindow (0x2007#32 : Word).toNat = false ∧
      running.inSource 0x2008#32 = false ∧ running.inDest 0x2008#32 = false ∧
      (scheduled (.memRead 0 false 0x2007#32) running).schedule = [.memRead 0 false 0x2007#32] := by decide

theorem witness_RacedBytesBecomeDraws_write :
    running.inSource 0x1007#32 = true ∧ running.inDest 0x2000#32 = true ∧
      running.inSource 0x1008#32 = false ∧ running.inDest 0x1008#32 = false ∧
      running.plat.inWindow (0x1007#32 : Word).toNat = false ∧
      (scheduled (.memWrite 0 false 0x1007#32 1#8) running).schedule =
        [.memWrite 0 false 0x1007#32 1#8] := by decide

theorem witness_RacedBytesBecomeDraws_kept :
    ∃ t, step { running with tainted := [0x2000#32] } = .next t ∧ t.busy = true :=
  ⟨_, rfl, by decide⟩

theorem witness_RacedBytesBecomeDraws_end :
    { lastIndex with tainted := [0x2000#32] }.Inv ∧
      (engineStep { lastIndex with tainted := [0x2000#32] }).busy = false ∧
      (0x2000#32 : Word) ∈ [0x2000#32] := by decide

/-- `running` with the bytes below its index transformed: `E(0) = 8` under `CFG 5, 8`. -/
def progressed : State :=
  { running with mem := [(0x1003, 0x41#8), (0x2000, 8#8), (0x2001, 8#8), (0x2002, 8#8)] }

theorem witness_ProgressSurvivesOrderlySteps :
    progressed.Inv ∧ progressed.busy = true ∧ progressed.tainted = [] ∧ progressed.orderly = true ∧
      ¬progressed.resetsNext ∧
      (∃ t, step progressed = .next t ∧ t.errcode = .none) ∧
      (∀ k : Nat, k < progressed.count.toNat → progressed.mem.read (progressed.dst.toNat + k) =
        progressed.cfg.transform progressed.engOp
          (Memory.read [(0x1003, 0x41#8)] (progressed.src.toNat + k))) ∧
      (∀ k : Nat, progressed.count.toNat ≤ k → k < progressed.len.toNat →
        progressed.mem.read (progressed.src.toNat + k) =
          Memory.read [(0x1003, 0x41#8)] (progressed.src.toNat + k)) := by
  have hc : progressed.count.toNat = 3 := rfl
  have hl : progressed.len.toNat = 8 := rfl
  refine ⟨by decide, rfl, rfl, by decide, ?_, ⟨_, rfl, by decide⟩, ?_, ?_⟩
  · rintro ⟨_, h⟩
    cases h
  · intro k hk
    rw [hc] at hk
    interval_cases k <;> decide
  · intro k hk hk'
    rw [hc] at hk
    rw [hl] at hk'
    interval_cases k <;> decide

theorem witness_HostMemoryReadAfterWrite :
    { keyed with schedule := [.memWrite 0 false 0xFFFFFFFF#32 7#8, .memRead 1 false 0#32] }.Inv ∧
      keyed.busy = false ∧ keyed.plat.inWindow (0xFFFFFFFF#32 : Word).toNat = false ∧
      keyed.plat.inWindow (0#32 : Word).toNat = false := by decide

theorem witness_ResetSetsEveryRegister : (scheduled .reset running).resetsNext := ⟨[], rfl⟩

theorem witness_ResetDrawsTheInterruptedRange :
    ((scheduled .reset running).Inv ∧ (scheduled .reset running).resetsNext ∧
        (∃ t, step (scheduled .reset running) = .next t) ∧ running.busy = true ∧
        running.inDest 0x2000#32 = true ∧ running.inDest 0x2008#32 = false) ∧
      (scheduled .reset keyed).Inv ∧ (∃ t, step (scheduled .reset keyed) = .next t) ∧
        keyed.busy = false :=
  ⟨⟨by decide, ⟨[], rfl⟩, ⟨_, rfl⟩, rfl, by decide, by decide⟩, by decide, ⟨_, rfl⟩, rfl⟩

theorem witness_ConfigurationInvariantKept :
    (keyed.cfg.Consistent ∧ ∃ t, step (writing .cmd 0x00010701#32 keyed) = .next t) ∧
      (State.reset.cfg.Consistent ∧ ∃ t, step (writing .cmd 0x00010701#32 State.reset) = .next t) :=
  ⟨⟨by decide, _, rfl⟩, by decide, _, rfl⟩

theorem witness_EveryStepKeepsTheInvariant :
    (running.Inv ∧ ∃ t, step running = .next t) ∧ topBuffers.Inv ∧
      ∃ t, step (writing .cmd 5#32 topBuffers) = .next t :=
  ⟨⟨by decide, _, rfl⟩, by decide, _, rfl⟩

end Sys2Proof.Tests
end

section
/-! PROOFS. What one step can do, said once for the proofs that follow: an equation for each kind of scheduled
event, and an inversion of a whole step into the effects of 00_scope.md R14. -/

namespace Sys2Proof.Machine

/-! ### A step whose first event is known -/

/-- An accepted write to a register of the window (10_state.md R23). -/
theorem step_regWrite {s : State} {host : Nat} {r : Reg} {v : Word} {rest : List Event}
    (h : s.schedule = .regWrite host .w32 r.offset v :: rest) :
    step s = writeRegister r v ((s.withSchedule rest).answerHost host .ok) := by
  simp [step_event h, handle, hostRegWrite, selectRegister_offset]

@[simp] theorem State.readRegister_withSchedule (s : State) (rest : List Event) (r : Reg) :
    (s.withSchedule rest).readRegister r = s.readRegister r := by
  cases r <;> rfl

/-- An accepted read of a register of the window (10_state.md R22). -/
theorem step_regRead {s : State} {host : Nat} {r : Reg} {rest : List Event}
    (h : s.schedule = .regRead host .w32 r.offset :: rest) :
    step s = .next ((s.withSchedule rest).answerHost host (.word (s.readRegister r))) := by
  simp [step_event h, handle, hostRegRead, selectRegister_offset]

/-- The next step of a state that accepts a write is that write's. -/
theorem step_of_writesNext {s : State} {r : Reg} {v : Word} (h : s.writesNext r v) :
    ∃ host rest, step s = writeRegister r v ((s.withSchedule rest).answerHost host .ok) := by
  obtain ⟨host, rest, hs⟩ := h
  exact ⟨host, rest, step_regWrite hs⟩

/-- A reset step resets the block (70_reset_and_hazards.md R240). -/
theorem step_of_resetsNext {s : State} (h : s.resetsNext) :
    ∃ rest, step s = .next (resetBlock (s.withSchedule rest)) := by
  obtain ⟨rest, hs⟩ := h
  exact ⟨rest, step_event hs⟩

/-- A write to CMD while BUSY is 0 issues the word (30_encoding.md R95). -/
theorem step_of_idle_cmd {s : State} {w : Word} (hb : s.busy = false) (h : s.writesNext .cmd w) :
    ∃ host rest, step s = issue w ((s.withSchedule rest).answerHost host .ok) := by
  obtain ⟨host, rest, hs⟩ := step_of_writesNext h
  exact ⟨host, rest, by simp [hs, writeRegister, hb]⟩

/-- The next step of a state that accepts a command runs it (30_encoding.md R95). -/
theorem step_of_acceptsNext {s : State} {i : Instr} (h : s.acceptsNext i) :
    ∃ host rest, step s = exec i ((s.withSchedule rest).answerHost host .ok).accept := by
  obtain ⟨hb, w, hw, hd⟩ := h
  obtain ⟨host, rest, hs⟩ := step_of_idle_cmd hb hw
  exact ⟨host, rest, by rw [hs, issue, hd]⟩

/-- While BUSY is 1 a write to CMD, SRC, DST or LEN is lost (10_state.md R39). -/
theorem writeRegister_busy {s : State} {r : Reg} (v : Word) (hb : s.busy = true)
    (hr : r = .cmd ∨ r = .src ∨ r = .dst ∨ r = .len) : writeRegister r v s = .next s.overrun := by
  rcases hr with rfl | rfl | rfl | rfl <;> simp [writeRegister, hb]

/-! ### What is the same after an access -/

/-- Taking an event and answering a host changes nothing in reach of the block. -/
theorem sameMachine_access (s : State) (rest : List Event) (host : Nat) (r : Reply) :
    SameMachine s ((s.withSchedule rest).answerHost host r) :=
  ⟨⟨rfl, rfl, rfl, rfl, rfl, rfl, rfl, rfl, rfl, rfl, rfl, rfl⟩, rfl, rfl, rfl, rfl, rfl⟩

/-- A host's own write of memory leaves every register and hidden field of the block alone. -/
theorem sameBlock_of_memWrite {s t : State} {host : Nat} {rest : List Event} {a : Word} {v : Byte}
    (h : t = (hostRace a ((s.withSchedule rest).setByte a v)).answerHost host .ok ∨
      t = (hostRace a ((s.withSchedule rest).drawBytes [a])).answerHost host .ok) : SameBlock s t := by
  rcases h with rfl | rfl <;> simp [SameBlock]

/-! The comparison of two blocks, field by field. -/

theorem SameBlock.ie {s t : State} (h : SameBlock s t) : t.ie = s.ie := by
  simp only [SameBlock] at h
  simp only [h]

theorem SameBlock.busy {s t : State} (h : SameBlock s t) : t.busy = s.busy := by
  simp only [SameBlock] at h
  simp only [h]

theorem SameBlock.done {s t : State} (h : SameBlock s t) : t.done = s.done := by
  simp only [SameBlock] at h
  simp only [h]

theorem SameBlock.ovr {s t : State} (h : SameBlock s t) : t.ovr = s.ovr := by
  simp only [SameBlock] at h
  simp only [h]

theorem SameBlock.errcode {s t : State} (h : SameBlock s t) : t.errcode = s.errcode := by
  simp only [SameBlock] at h
  simp only [h]

theorem SameBlock.result {s t : State} (h : SameBlock s t) : t.result = s.result := by
  simp only [SameBlock] at h
  simp only [h]

theorem SameBlock.src {s t : State} (h : SameBlock s t) : t.src = s.src := by
  simp only [SameBlock] at h
  simp only [h]

theorem SameBlock.dst {s t : State} (h : SameBlock s t) : t.dst = s.dst := by
  simp only [SameBlock] at h
  simp only [h]

theorem SameBlock.len {s t : State} (h : SameBlock s t) : t.len = s.len := by
  simp only [SameBlock] at h
  simp only [h]

theorem SameBlock.count {s t : State} (h : SameBlock s t) : t.count = s.count := by
  simp only [SameBlock] at h
  simp only [h]

theorem SameBlock.cfg {s t : State} (h : SameBlock s t) : t.cfg = s.cfg := by
  simp only [SameBlock] at h
  simp only [h]

theorem SameBlock.engOp {s t : State} (h : SameBlock s t) : t.engOp = s.engOp := by
  simp only [SameBlock] at h
  simp only [h]

/-! What moving one byte leaves alone, and COUNT (42_buffer_transform.md R175). -/

@[simp] theorem State.moveByte_busy (s : State) : s.moveByte.busy = s.busy := by
  simp [State.moveByte]

@[simp] theorem State.moveByte_done (s : State) : s.moveByte.done = s.done := by
  simp [State.moveByte]

@[simp] theorem State.moveByte_errcode (s : State) : s.moveByte.errcode = s.errcode := by
  simp [State.moveByte]

@[simp] theorem State.moveByte_src (s : State) : s.moveByte.src = s.src := by
  simp [State.moveByte]

@[simp] theorem State.moveByte_dst (s : State) : s.moveByte.dst = s.dst := by
  simp [State.moveByte]

@[simp] theorem State.moveByte_len (s : State) : s.moveByte.len = s.len := by
  simp [State.moveByte]

@[simp] theorem State.moveByte_cfg (s : State) : s.moveByte.cfg = s.cfg := by
  simp [State.moveByte]

@[simp] theorem State.moveByte_engOp (s : State) : s.moveByte.engOp = s.engOp := by
  simp [State.moveByte]

@[simp] theorem State.moveByte_tainted (s : State) : s.moveByte.tainted = s.tainted := by
  simp [State.moveByte]

@[simp] theorem State.moveByte_plat (s : State) : s.moveByte.plat = s.plat := by
  simp [State.moveByte]

@[simp] theorem State.moveByte_count (s : State) : s.moveByte.count = s.count + 1#32 := by
  simp [State.moveByte]


/-! ### What an issued word can do -/

/-- Everything `issue w` can answer from `s` (30_encoding.md R95). -/
inductive IssueEffect (w : Word) (s t : State) : Prop
  /-- The command ended and only reported its outcome: NOP, an invalid word, and every error but that of CFG. -/
  | reported (e : ErrCode) (ht : t = s.accept.endCommand e)
  /-- CFG with an odd multiplier (40_configuration.md R114). -/
  | latched (a b : Byte) (hd : decode w = .command (.cfg a b)) (ha : a.toNat % 2 = 1)
      (ht : t = (s.accept.setCfg (Cfg.construct a b)).endCommand .none)
  /-- CFG with an even multiplier, or CLR (40_configuration.md R114, R115). -/
  | discarded (e : ErrCode)
      (hd : (∃ a b, decode w = .command (.cfg a b) ∧ a.toNat % 2 = 0) ∨ decode w = .command .clr)
      (ht : t = s.accept.discard.endCommand e)
  /-- ENCB or DECB with a configuration (41_byte_transform.md R147, R148). -/
  | computed (op : EngOp) (x : Byte)
      (hd : decode w = .command (.encb x) ∧ op = .enc ∨ decode w = .command (.decb x) ∧ op = .dec)
      (hv : s.cfg.valid = true)
      (ht : t = (s.accept.setResult (s.cfg.transform op x)).endCommand .none)
  /-- ENCBUF or DECBUF of no bytes (42_buffer_transform.md R174). -/
  | emptied (hd : decode w = .command .encbuf ∨ decode w = .command .decbuf)
      (ht : t = (s.accept.setCount 0#32).endCommand .none)
  /-- ENCBUF or DECBUF starts the engine (42_buffer_transform.md R174). -/
  | started (op : EngOp) (hd : decode w = .command .encbuf ∨ decode w = .command .decbuf)
      (hv : s.cfg.valid = true) (hr : s.rangeOk = true) (hl : s.len ≠ 0#32) (hw : s.windowClear = true)
      (ht : t = (s.accept.setCount 0#32).startEngine op)

/-- A buffer command reports an error, has nothing to do, or starts the engine. -/
theorem startBuffer_effect {w : Word} {op : EngOp} {s t : State}
    (hd : decode w = .command .encbuf ∨ decode w = .command .decbuf)
    (h : startBuffer op s.accept = .next t) : IssueEffect w s t := by
  rcases startBuffer_cases h with ⟨-, ht⟩ | ⟨-, -, ht⟩ | ⟨-, -, -, ht⟩ | ⟨hv, hr, hl, hw, ht⟩
  · exact .reported _ ht
  · exact .reported _ ht
  · exact .emptied hd ht
  · exact .started op hd hv hr hl hw ht

/-- A byte command leaves its result or reports an error. -/
theorem byteCommand_effect {w : Word} {op : EngOp} {x : Byte} {s t : State}
    (hd : decode w = .command (.encb x) ∧ op = .enc ∨ decode w = .command (.decb x) ∧ op = .dec)
    (h : byteCommand op x s.accept = .next t) : IssueEffect w s t := by
  rcases byteCommand_cases h with ⟨hv, ht⟩ | ⟨-, ht⟩
  · exact .computed op x hd hv ht
  · exact .reported _ ht

theorem validMultiplier_iff (a : Byte) : validMultiplier a = true ↔ a.toNat % 2 = 1 := by
  simp [validMultiplier]

/-- CFG latches a configuration or discards the one there was (40_configuration.md R114). -/
theorem execCfg_effect {w : Word} {a b : Byte} {s t : State} (hd : decode w = .command (.cfg a b))
    (h : execCfg a b s.accept = .next t) : IssueEffect w s t := by
  unfold execCfg at h
  split at h
  next hv => exact .latched a b hd ((validMultiplier_iff a).mp hv) (Host.Outcome.next.inj h).symm
  next hv =>
    rw [validMultiplier_iff] at hv
    exact .discarded _ (.inl ⟨a, b, hd, by omega⟩) (Host.Outcome.next.inj h).symm

/-- The effects of an issued word are complete. -/
theorem issue_effect {w : Word} {s t : State} (h : issue w s = .next t) : IssueEffect w s t := by
  rcases issue_cases h with ⟨i, hd, he⟩ | ⟨-, ht⟩
  · cases i with
    | nop => exact .reported .none (Host.Outcome.next.inj he).symm
    | cfg a b => exact execCfg_effect hd he
    | encb x => exact byteCommand_effect (.inl ⟨hd, rfl⟩) he
    | decb y => exact byteCommand_effect (.inr ⟨hd, rfl⟩) he
    | encbuf => exact startBuffer_effect (.inl hd) he
    | decbuf => exact startBuffer_effect (.inr hd) he
    | clr => exact .discarded .none (.inr hd) (Host.Outcome.next.inj he).symm
  · exact .reported _ ht

/-- No issued word changes CTRL, OVR, the operands, memory or what is not the block's. -/
theorem IssueEffect.frame {w : Word} {s t : State} (h : IssueEffect w s t) : CommandFrame s t := by
  cases h with
  | reported _ ht => simp [CommandFrame, ht]
  | latched _ _ _ _ ht => simp [CommandFrame, ht]
  | discarded _ _ ht => simp [CommandFrame, ht]
  | computed _ _ _ _ ht => simp [CommandFrame, ht]
  | emptied _ ht => simp [CommandFrame, ht]
  | started _ _ _ _ _ _ ht => simp [CommandFrame, ht]

/-- A word issued while BUSY is 0 has ended when its write ends, or the engine runs (30_encoding.md R96). -/
theorem IssueEffect.done_eq {w : Word} {s t : State} (h : IssueEffect w s t) : t.done = !t.busy := by
  cases h with
  | reported _ ht => simp [ht]
  | latched _ _ _ _ ht => simp [ht]
  | discarded _ _ ht => simp [ht]
  | computed _ _ _ _ ht => simp [ht]
  | emptied _ ht => simp [ht]
  | started _ _ _ _ _ _ ht => simp [ht]

/-- The engine runs after a CMD write only where the word is a buffer command that starts it. -/
theorem IssueEffect.started_of_busy {w : Word} {s t : State} (h : IssueEffect w s t) (hb : t.busy = true) :
    (decode w = .command .encbuf ∨ decode w = .command .decbuf) ∧ t.done = false ∧ t.errcode = .none ∧
      t.count = 0#32 := by
  cases h with
  | started _ hd _ _ _ _ ht => simp [ht, hd]
  | reported _ ht => simp [ht] at hb
  | latched _ _ _ _ ht => simp [ht] at hb
  | discarded _ _ ht => simp [ht] at hb
  | computed _ _ _ _ ht => simp [ht] at hb
  | emptied _ ht => simp [ht] at hb

/-- The configuration after an issued word is the old one, none, or one that CFG latched. -/
theorem IssueEffect.cfg_cases {w : Word} {s t : State} (h : IssueEffect w s t) :
    t.cfg = s.cfg ∨
      (((∃ a b, decode w = .command (.cfg a b) ∧ a.toNat % 2 = 0) ∨ decode w = .command .clr) ∧
        t.cfg = Cfg.cleared) ∨
      ∃ a b, decode w = .command (.cfg a b) ∧ a.toNat % 2 = 1 ∧ t.cfg = Cfg.construct a b := by
  cases h with
  | reported _ ht => simp [ht]
  | latched a b hd ha ht => exact .inr (.inr ⟨a, b, hd, ha, by simp [ht]⟩)
  | discarded _ hd ht => exact .inr (.inl ⟨hd, by simp [ht]⟩)
  | computed _ _ _ _ ht => simp [ht]
  | emptied _ ht => simp [ht]
  | started _ _ _ _ _ _ ht => simp [ht]

/-- A buffer command whose word is accepted is the next command. -/
theorem acceptsNext_buffer {s : State} {w : Word} (hb : s.busy = false) (hw : s.writesNext .cmd w)
    (hd : decode w = .command .encbuf ∨ decode w = .command .decbuf) :
    s.acceptsNext .encbuf ∨ s.acceptsNext .decbuf :=
  hd.imp (fun h => ⟨hb, w, hw, h⟩) fun h => ⟨hb, w, hw, h⟩

/-! ### What a step can do -/

/-- Everything a step can do, with the event that does it (00_scope.md R14). -/
inductive StepEffect (s t : State) : Prop
  | engine (rest : List Event) (hn : s.enginesNext) (ht : t = engineStep (s.withSchedule rest))
  | reset (rest : List Event) (hn : s.resetsNext) (ht : t = resetBlock (s.withSchedule rest))
  /-- An access that leaves the block alone: it changes only what a host gets back, and perhaps uses a free
  value, or it is a host's own write of a byte of memory. -/
  | access (hs : SameBlock s t)
      (hm : (t.mem = s.mem ∧ t.tainted = s.tainted ∧ t.plat = s.plat) ∨
        ∃ host rest a v, t = (hostRace a ((s.withSchedule rest).setByte a v)).answerHost host .ok ∨
          t = (hostRace a ((s.withSchedule rest).drawBytes [a])).answerHost host .ok)
  | ctrl (host : Nat) (rest : List Event) (v : Word) (hw : s.writesNext .ctrl v)
      (ht : t = ((s.withSchedule rest).answerHost host .ok).setIe v[0])
  | status (host : Nat) (rest : List Event) (v : Word) (hw : s.writesNext .status v)
      (ht : t = ((s.withSchedule rest).answerHost host .ok).acknowledge v)
  /-- A write lost because BUSY is 1 (10_state.md R39). -/
  | lost (host : Nat) (rest : List Event) (r : Reg) (v : Word) (hb : s.busy = true)
      (hr : r = .cmd ∨ r = .src ∨ r = .dst ∨ r = .len) (hw : s.writesNext r v)
      (ht : t = ((s.withSchedule rest).answerHost host .ok).overrun)
  /-- A write to SRC, DST or LEN while BUSY is 0 (10_state.md R35 to R37). -/
  | stored (host : Nat) (rest : List Event) (v : Word) (hb : s.busy = false)
      (ht : t = ((s.withSchedule rest).answerHost host .ok).setSrc v ∨
        t = ((s.withSchedule rest).answerHost host .ok).setDst v ∨
        t = ((s.withSchedule rest).answerHost host .ok).setLen v)
  /-- A write to CMD while BUSY is 0 (10_state.md R33). -/
  | issued (host : Nat) (rest : List Event) (w : Word) (hb : s.busy = false) (hw : s.writesNext .cmd w)
      (hi : IssueEffect w ((s.withSchedule rest).answerHost host .ok) t)

/-- The effects of a step are complete. -/
theorem step_effect {s t : State} (h : step s = .next t) : StepEffect s t := by
  rcases step_inversion h with ⟨hn, rest, ht⟩ | ⟨hn, rest, ht⟩ | ⟨host, rest, r, rfl⟩ |
    ⟨host, rest, r, rfl⟩ | ⟨host, rest, c, a, v, -, ht⟩ | ⟨host, rest, r, v, hs, hw⟩
  · exact .engine rest hn ht
  · exact .reset rest hn ht
  · exact .access (sameMachine_access s rest host r).1 (.inl ⟨rfl, rfl, rfl⟩)
  · exact .access (sameMachine_access s rest host r).1 (.inl ⟨rfl, rfl, rfl⟩)
  · exact .access (sameBlock_of_memWrite ht) (.inr ⟨host, rest, a, v, ht⟩)
  · have hn : s.writesNext r v := ⟨host, rest, hs⟩
    rcases writeRegister_cases hw with ⟨rfl, ht⟩ | ⟨rfl, ht⟩ | ⟨hb, hr, ht⟩ | ⟨hb, rfl, hi⟩ |
      ⟨hb, -, ht⟩ | ⟨hb, -, ht⟩ | ⟨hb, -, ht⟩ | ⟨-, rfl⟩
    · exact .ctrl host rest v hn ht
    · exact .status host rest v hn ht
    · exact .lost host rest r v hb hr hn ht
    · exact .issued host rest v hb hn (issue_effect hi)
    · exact .stored host rest v hb (.inl ht)
    · exact .stored host rest v hb (.inr (.inl ht))
    · exact .stored host rest v hb (.inr (.inr ht))
    · exact .access (sameMachine_access s rest host .ok).1 (.inl ⟨rfl, rfl, rfl⟩)

end Sys2Proof.Machine
end

section
/-! PROOFS. The invariant of the machine (10_state.md R42; 20_memory.md R73; 42_buffer_transform.md R173 to
R175): it holds after reset and every step keeps it. -/

namespace Sys2Proof.Machine

/-! ### The configuration -/

/-- The closed form of R112 inverts every odd multiplier (40_configuration.md R112, R113). -/
theorem mul_inverse_mod : ∀ a : Byte, a.toNat % 2 = 1 → (a.toNat * (inverse a).toNat) % 256 = 1 := by
  decide

theorem Cfg.cleared_consistent : Cfg.cleared.Consistent := by decide

/-- What CFG latches is consistent (40_configuration.md R114). -/
theorem Cfg.construct_consistent {a b : Byte} (ha : a.toNat % 2 = 1) : (Cfg.construct a b).Consistent :=
  ⟨fun _ => ⟨ha, mul_inverse_mod a ha⟩, fun h => nomatch h⟩

/-- The configuration after a step is the old one, none, or one that CFG latched, with the event of a change. -/
theorem step_cfg_cases {s t : State} (h : step s = .next t) :
    t.cfg = s.cfg ∨
      (((∃ a b, s.acceptsNext (.cfg a b) ∧ a.toNat % 2 = 0) ∨ s.acceptsNext .clr ∨ s.resetsNext) ∧
        t.cfg = Cfg.cleared) ∨
      ∃ a b, s.acceptsNext (.cfg a b) ∧ a.toNat % 2 = 1 ∧ t.cfg = Cfg.construct a b := by
  cases step_effect h with
  | engine _ _ ht => exact .inl (by simp [ht])
  | reset _ hn ht => exact .inr (.inl ⟨.inr (.inr hn), by simp [ht]⟩)
  | access hs _ => exact .inl hs.cfg
  | ctrl _ _ _ _ ht => exact .inl (by simp [ht])
  | status _ _ _ _ ht => exact .inl (by simp [ht])
  | lost _ _ _ _ _ _ _ ht => exact .inl (by simp [ht])
  | stored _ _ _ _ ht => rcases ht with ht | ht | ht <;> exact .inl (by simp [ht])
  | issued _ _ w hb hw hi =>
    rcases hi.cfg_cases with hc | ⟨⟨a, b, hd, ha⟩ | hd, hc⟩ | ⟨a, b, hd, ha, hc⟩
    · exact .inl hc
    · exact .inr (.inl ⟨.inl ⟨a, b, ⟨hb, w, hw, hd⟩, ha⟩, hc⟩)
    · exact .inr (.inl ⟨.inr (.inl ⟨hb, w, hw, hd⟩), hc⟩)
    · exact .inr (.inr ⟨a, b, ⟨hb, w, hw, hd⟩, ha, hc⟩)

/-- Every step keeps the configuration invariant of R42. -/
theorem step_keeps_consistent {s t : State} (hc : s.cfg.Consistent) (h : step s = .next t) :
    t.cfg.Consistent := by
  rcases step_cfg_cases h with e | ⟨-, e⟩ | ⟨a, b, -, ha, e⟩
  · exact e ▸ hc
  · exact e ▸ Cfg.cleared_consistent
  · exact e ▸ Cfg.construct_consistent ha

/-- Settles O58: each rule that writes `cfg` leaves it cleared or latched by CFG with an odd multiplier. -/
theorem configurationInvariantKept : Obligations.ConfigurationInvariantKept :=
  fun _ _ hc h => step_keeps_consistent hc h

/-! ### The running command and its races -/

/-- The parts of the invariant that do not speak of the configuration's values. A step keeps them together: that
a new race lies in the destination range needs the running command's checked ranges. -/
abbrev State.RunInv (s : State) : Prop := s.RunConsistent ∧ s.RacesConsistent ∧ s.mem.wf = true

theorem inDest_congr {s t : State} (hd : t.dst = s.dst) (hl : t.len = s.len) : t.inDest = s.inDest := by
  funext a
  simp [State.inDest, hd, hl]

theorem rangeOk_congr {s t : State} (hs : t.src = s.src) (hd : t.dst = s.dst) (hl : t.len = s.len) :
    t.rangeOk = s.rangeOk := by
  simp [State.rangeOk, hs, hd, hl]

theorem windowClear_congr {s t : State} (hs : t.src = s.src) (hd : t.dst = s.dst) (hl : t.len = s.len)
    (hp : t.plat = s.plat) : t.windowClear = s.windowClear := by
  simp [State.windowClear, hs, hd, hl, hp]

theorem racesConsistent_congr {s t : State} (hb : t.busy = s.busy) (ht : t.tainted = s.tainted)
    (hd : t.dst = s.dst) (hl : t.len = s.len) (h : s.RacesConsistent) : t.RacesConsistent := by
  simpa [State.RacesConsistent, hb, ht, inDest_congr hd hl] using h

@[simp] theorem State.moveByte_rangeOk (s : State) : s.moveByte.rangeOk = s.rangeOk :=
  rangeOk_congr (by simp) (by simp) (by simp)

@[simp] theorem State.moveByte_windowClear (s : State) : s.moveByte.windowClear = s.windowClear :=
  windowClear_congr (by simp) (by simp) (by simp) (by simp)

/-- Where BUSY is 0 and no race is open, only memory is left to check. -/
theorem runInv_of_idle {s : State} (hb : s.busy = false) (ht : s.tainted = []) (hm : s.mem.wf = true) :
    s.RunInv :=
  ⟨fun h => absurd h (by simp [hb]), ⟨fun _ => ht, by simp [ht], by simp [ht]⟩, hm⟩

/-- The engine ends the command with no open race and canonical memory, or it stays below LEN. -/
theorem engineStep_keeps_runInv {s : State} (h : s.RunInv) : (engineStep s).RunInv := by
  obtain ⟨hrun, hrace, hm⟩ := h
  rcases engineStep_cases s with ⟨-, e⟩ | ⟨-, e, -⟩ | ⟨-, -, e⟩ | ⟨-, -, -, e⟩ | ⟨-, -, -, -, e⟩ |
    ⟨hb, -, -, hne, e⟩
  · rw [e]
    exact ⟨hrun, hrace, hm⟩
  · rw [e]
    exact ⟨hrun, hrace, hm⟩
  · rw [e]
    exact runInv_of_idle rfl rfl (Memory.wf_drawAll hm _ _)
  · rw [e]
    exact runInv_of_idle rfl rfl (Memory.wf_drawAll (Memory.wf_drawAll hm _ _) _ _)
  · rw [e]
    exact runInv_of_idle (by simp) (by simp)
      (Memory.wf_drawAll (Memory.wf_write hm _ (word_in_addressSpace _)) _ _)
  · rw [e]
    obtain ⟨hv, hd, he, hc, hr, hw⟩ := hrun hb
    have hlt : (s.count + 1#32).toNat < s.len.toNat := by
      have : (s.count + 1#32).toNat ≠ s.len.toNat := fun h => hne (BitVec.eq_of_toNat_eq h)
      simp only [BitVec.toNat_add, BitVec.toNat_ofNat] at *
      omega
    exact ⟨fun _ => ⟨hv, hd, he, hlt, by simpa using hr, by simpa using hw⟩,
      racesConsistent_congr (by simp) (by simp) (by simp) (by simp) hrace,
      Memory.wf_write hm _ (word_in_addressSpace _)⟩

/-- The destination byte of a source byte's index lies in the destination range (20_memory.md R73 item 2). -/
theorem inDest_of_inSource {s : State} {a : Word} (hr : s.rangeOk = true) (ha : s.inSource a = true) :
    s.inDest (s.dst + (a - s.src)) = true := by
  obtain ⟨-, hdst, -⟩ := s.rangeOk_iff.mp hr
  obtain ⟨hlo, hhi⟩ := (s.inSource_iff a).mp ha
  have hi : (a - s.src).toNat = a.toNat - s.src.toNat := BitVec.toNat_sub_of_le (BitVec.le_def.mpr hlo)
  rw [State.inDest_iff, add_index_toNat (len := s.len) hdst (by omega)]
  omega

/-- The races a host write opens are the running command's (20_memory.md R73). -/
theorem hostRace_racesConsistent {s : State} (a : Word) (hr : s.busy = true → s.rangeOk = true)
    (h : s.RacesConsistent) : (hostRace a s).RacesConsistent := by
  obtain ⟨hidle, hnd, hin⟩ := h
  refine ⟨fun hb => ?_, hostRace_nodup a hnd, ?_⟩
  · rw [hostRace_busy] at hb
    simp [hostRace, hb, hidle hb]
  · rw [inDest_congr (hostRace_dst a s) (hostRace_len a s), List.all_eq_true]
    intro b hmem
    rcases (mem_hostRace_tainted a s b).mp hmem with ⟨-, hd, rfl⟩ | ⟨hb, hs, rfl⟩ | ht
    · exact hd
    · exact inDest_of_inSource (hr hb) hs
    · exact List.all_eq_true.mp hin b ht

/-- A write of memory by a host keeps the invariant, given what it left in memory. -/
theorem hostRace_runInv {s : State} (a : Word) (h : s.RunInv) : (hostRace a s).RunInv := by
  obtain ⟨hrun, hrace, hm⟩ := h
  refine ⟨?_, hostRace_racesConsistent a (fun hb => ?_) hrace, by simpa using hm⟩
  · simpa [State.RunConsistent, State.rangeOk, State.windowClear] using hrun
  · obtain ⟨-, -, -, -, hr, -⟩ := hrun hb
    exact hr

/-- The same block with the same races and platform, and canonical memory, meets the invariant too. -/
theorem runInv_of_sameBlock {s t : State} (h : s.RunInv) (hs : SameBlock s t) (ht : t.tainted = s.tainted)
    (hp : t.plat = s.plat) (hm : t.mem.wf = true) : t.RunInv := by
  obtain ⟨hrun, hrace, -⟩ := h
  refine ⟨?_, racesConsistent_congr hs.busy ht hs.dst hs.len hrace, hm⟩
  simpa [State.RunConsistent, rangeOk_congr hs.src hs.dst hs.len, windowClear_congr hs.src hs.dst hs.len hp,
    hs.busy, hs.cfg, hs.done, hs.errcode, hs.count, hs.len] using hrun

/-- An issued word ends at once, or starts the engine after the checks of R173. -/
theorem IssueEffect.runInv {w : Word} {s t : State} (hi : IssueEffect w s t) (hb : s.busy = false)
    (h : s.RunInv) : t.RunInv := by
  obtain ⟨-, ⟨hidle, -, -⟩, hm⟩ := h
  have ht := hidle hb
  cases hi with
  | reported _ e => exact e ▸ runInv_of_idle rfl ht hm
  | latched _ _ _ _ e => exact e ▸ runInv_of_idle rfl ht hm
  | discarded _ _ e => exact e ▸ runInv_of_idle rfl ht hm
  | computed _ _ _ _ e => exact e ▸ runInv_of_idle rfl ht hm
  | emptied _ e => exact e ▸ runInv_of_idle rfl ht hm
  | started op _ hv hr hl hw e =>
    subst e
    have hpos : 0 < s.len.toNat := Nat.pos_of_ne_zero fun h0 => hl (BitVec.eq_of_toNat_eq h0)
    exact ⟨fun _ => ⟨hv, rfl, rfl, hpos, hr, hw⟩, ⟨fun _ => ht, by simp [ht], by simp [ht]⟩, hm⟩

/-- Every step keeps what holds of the running command, its races and memory. -/
theorem step_keeps_runInv {s t : State} (hs : s.RunInv) (h : step s = .next t) : t.RunInv := by
  cases step_effect h with
  | engine rest _ ht => exact ht ▸ engineStep_keeps_runInv (s := s.withSchedule rest) hs
  | reset rest _ ht =>
    obtain ⟨-, -, hm⟩ := hs
    subst ht
    refine runInv_of_idle (by simp) (by simp) ?_
    rw [resetBlock_mem]
    split
    · exact Memory.wf_drawAll hm _ _
    · exact hm
  | access hb hm =>
    have hwf : s.mem.wf = true := hs.2.2
    rcases hm with ⟨hmem, htaint, hp⟩ | ⟨host, rest, a, v, rfl | rfl⟩
    · exact runInv_of_sameBlock hs hb htaint hp (hmem ▸ hwf)
    · have h' : ((s.withSchedule rest).setByte a v).RunInv :=
        runInv_of_sameBlock hs (by simp [SameBlock]) rfl rfl (Memory.wf_write hwf v (word_in_addressSpace a))
      exact hostRace_runInv a h'
    · have h' : ((s.withSchedule rest).drawBytes [a]).RunInv :=
        runInv_of_sameBlock hs (by simp [SameBlock]) rfl rfl (Memory.wf_drawAll hwf _ _)
      exact hostRace_runInv a h'
  | ctrl _ _ _ _ ht => exact ht ▸ hs
  | status _ _ v _ ht =>
    obtain ⟨hrun, hrace, hm⟩ := hs
    subst ht
    refine ⟨fun hb => ?_, racesConsistent_congr (by simp) (by simp) (by simp) (by simp) hrace, hm⟩
    obtain ⟨hv, hd, hrest⟩ := hrun (by simpa using hb)
    exact ⟨hv, by simp [hd], hrest⟩
  | lost _ _ _ _ _ _ _ ht => exact ht ▸ hs
  | stored _ _ _ hb ht =>
    obtain ⟨-, ⟨hidle, -, -⟩, hm⟩ := hs
    rcases ht with rfl | rfl | rfl <;> exact runInv_of_idle hb (hidle hb) hm
  | issued host rest _ hb _ hi => exact hi.runInv hb hs

/-- Settles O59: the configuration by O58's lemma, the rest by `step_keeps_runInv`. -/
theorem everyStepKeepsTheInvariant : Obligations.EveryStepKeepsTheInvariant :=
  fun _ _ ⟨hc, hrun⟩ h => ⟨step_keeps_consistent hc h, step_keeps_runInv hrun h⟩

/-- Settles O60: no command runs after reset, and nothing is configured. -/
theorem invariantHoldsAtReset : Obligations.InvariantHoldsAtReset :=
  ⟨Cfg.cleared_consistent, runInv_of_idle rfl rfl State.reset_mem_wf⟩

end Sys2Proof.Machine
end

section
/-! PROOFS. The register window (10_state.md R22 to R39, R44): the bits of its registers, and what a host's read
or write of it does in one step. -/

namespace Sys2Proof.Machine

/-! ### The bits of CTRL, STATUS and RESULT (10_state.md R25, R26, R34) -/

theorem State.ctrlWord_getLsbD (s : State) (i : Nat) : s.ctrlWord.getLsbD i = (decide (i = 0) && s.ie) := by
  simp only [State.ctrlWord, BitVec.getLsbD_append, BitVec.getLsbD_ofBool]
  cases i <;> simp

theorem State.resultWord_getLsbD (s : State) (i : Nat) : s.resultWord.getLsbD i = s.result.getLsbD i := by
  simp only [State.resultWord, BitVec.getLsbD_append]
  split
  · rfl
  next h => rw [BitVec.getLsbD_zero, BitVec.getLsbD_of_ge s.result i (by omega)]

theorem State.statusWord_getLsbD (s : State) (i : Nat) : s.statusWord.getLsbD i =
    if i = 0 then s.busy else if i = 1 then s.cfg.valid else if i = 2 then s.done else if i = 3 then s.err
    else if i = 4 then s.ovr else if i < 8 then false else s.errcode.code.getLsbD (i - 8) := by
  simp only [State.statusWord, BitVec.getLsbD_append, BitVec.getLsbD_ofBool]
  rcases i with _ | _ | _ | _ | _ | i
  all_goals simp
  grind

/-- Bits 11 to 8 are ERRCODE. -/
theorem State.statusWord_getLsbD_errcode (s : State) (i : Nat) :
    s.statusWord.getLsbD (8 + i) = s.errcode.code.getLsbD i := by
  rw [State.statusWord_getLsbD]
  repeat rw [if_neg (by omega)]
  rw [Nat.add_sub_cancel_left]

/-- Bits 7 to 5 and 31 to 12 are reserved. -/
theorem State.statusWord_getLsbD_reserved (s : State) {i : Nat} (h : 5 ≤ i ∧ i < 8 ∨ 12 ≤ i) :
    s.statusWord.getLsbD i = false := by
  rw [State.statusWord_getLsbD]
  repeat rw [if_neg (by omega)]
  split
  · rfl
  · exact BitVec.getLsbD_of_ge _ _ (by omega)

@[simp] theorem State.ctrlWord_ie (s : State) : s.ctrlWord[0] = s.ie := by
  simp [← BitVec.getLsbD_eq_getElem, State.ctrlWord_getLsbD]
@[simp] theorem State.statusWord_busy (s : State) : s.statusWord[0] = s.busy := by
  simp [← BitVec.getLsbD_eq_getElem, State.statusWord_getLsbD]
@[simp] theorem State.statusWord_configured (s : State) : s.statusWord[1] = s.cfg.valid := by
  simp [← BitVec.getLsbD_eq_getElem, State.statusWord_getLsbD]
@[simp] theorem State.statusWord_done (s : State) : s.statusWord[2] = s.done := by
  simp [← BitVec.getLsbD_eq_getElem, State.statusWord_getLsbD]
@[simp] theorem State.statusWord_err (s : State) : s.statusWord[3] = s.err := by
  simp [← BitVec.getLsbD_eq_getElem, State.statusWord_getLsbD]
@[simp] theorem State.statusWord_ovr (s : State) : s.statusWord[4] = s.ovr := by
  simp [← BitVec.getLsbD_eq_getElem, State.statusWord_getLsbD]

@[simp] theorem State.statusWord_errcode (s : State) : s.statusWord.extractLsb' 8 4 = s.errcode.code := by
  apply BitVec.eq_of_getLsbD_eq
  intro i hi
  simp [State.statusWord_getLsbD_errcode, hi]

/-- A field of a word is 0 when its bits are. -/
theorem extractLsb'_eq_zero {w : Word} {start len : Nat}
    (h : ∀ i, i < len → w.getLsbD (start + i) = false) : w.extractLsb' start len = 0#len := by
  apply BitVec.eq_of_getLsbD_eq
  intro i hi
  simp [h i hi]

/-- A word has no bit under a mask whose bits it has not. -/
theorem and_eq_zero_of_bits {w m : Word} (h : ∀ i, m.getLsbD i = true → w.getLsbD i = false) :
    w &&& m = 0#32 := by
  apply BitVec.eq_of_getLsbD_eq
  intro i hi
  cases hm : m.getLsbD i
  · simp [hm]
  · simp [h i hm]

/-! The reserved bits of each register read 0 (10_state.md R23 item 5). -/

theorem State.ctrlWord_reserved (s : State) : s.ctrlWord &&& 0xFFFFFFFE#32 = 0#32 := by
  refine and_eq_zero_of_bits fun i hm => ?_
  have h0 : i ≠ 0 := by
    rintro rfl
    exact absurd hm (by decide)
  simp [State.ctrlWord_getLsbD, h0]

theorem State.statusWord_reserved (s : State) : s.statusWord &&& 0xFFFFF0E0#32 = 0#32 := by
  refine and_eq_zero_of_bits fun i hm => s.statusWord_getLsbD_reserved ?_
  have hlow : ∀ j < 12, (0xFFFFF0E0#32 : Word).getLsbD j = true → 5 ≤ j ∧ j < 8 := by decide
  by_cases hi : i < 12
  · exact .inl (hlow i hi hm)
  · exact .inr (by omega)

theorem State.resultWord_reserved (s : State) : s.resultWord &&& 0xFFFFFF00#32 = 0#32 := by
  refine and_eq_zero_of_bits fun i hm => ?_
  have hlow : ∀ j < 8, (0xFFFFFF00#32 : Word).getLsbD j = false := by decide
  have hi : 8 ≤ i := by
    by_contra hlt
    simp [hlow i (by omega)] at hm
  exact (s.resultWord_getLsbD i).trans (BitVec.getLsbD_of_ge _ _ hi)

/-! ERRCODE's code and the flag derived from it (10_state.md R30; 60_exceptions.md R200). -/

@[simp] theorem ErrCode.code_eq_zero_iff (e : ErrCode) : e.code = 0#4 ↔ e = .none := by
  cases e <;> decide

theorem ErrCode.code_le_six (e : ErrCode) : e.code.toNat ≤ 6 := by
  cases e <;> decide

@[simp] theorem State.err_iff (s : State) : s.err = true ↔ s.errcode ≠ .none := by
  simp [State.err]

theorem State.resultWord_toNat (s : State) : s.resultWord.toNat = s.result.toNat := by
  rw [State.resultWord, BitVec.toNat_append]
  simp

/-! ### The writes of SRC, DST and LEN -/

@[simp] theorem State.readRegister_answerHost (s : State) (host : Nat) (a : Reply) (r : Reg) :
    (s.answerHost host a).readRegister r = s.readRegister r := by
  cases r <;> rfl

theorem State.readRegister_setSrc (s : State) (v : Word) {r : Reg} (h : r ≠ .src) :
    (s.setSrc v).readRegister r = s.readRegister r := by
  cases r with
  | src => exact absurd rfl h
  | _ => rfl

theorem State.readRegister_setDst (s : State) (v : Word) {r : Reg} (h : r ≠ .dst) :
    (s.setDst v).readRegister r = s.readRegister r := by
  cases r with
  | dst => exact absurd rfl h
  | _ => rfl

theorem State.readRegister_setLen (s : State) (v : Word) {r : Reg} (h : r ≠ .len) :
    (s.setLen v).readRegister r = s.readRegister r := by
  cases r with
  | len => exact absurd rfl h
  | _ => rfl

/-- While BUSY is 0 a write to SRC, DST or LEN is stored (10_state.md R35 to R37). -/
theorem writeRegister_idle {s : State} (hb : s.busy = false) (v : Word) :
    writeRegister .src v s = .next (s.setSrc v) ∧ writeRegister .dst v s = .next (s.setDst v) ∧
      writeRegister .len v s = .next (s.setLen v) := by
  simp [writeRegister, hb]

/-! ### A STATUS write -/

/-- A STATUS write depends on bits 2 and 4 of the value alone (10_state.md R26). -/
theorem acknowledge_congr (s : State) {v w : Word} (h2 : v[2] = w[2]) (h4 : v[4] = w[4]) :
    s.acknowledge v = s.acknowledge w := by
  simp [State.acknowledge, h2, h4]

/-- Two values that agree under a mask agree in each of its bits. -/
theorem getElem_eq_of_and_eq {v w m : Word} {i : Nat} (h : v &&& m = w &&& m) (hi : i < 32)
    (hm : m[i] = true) : v[i] = w[i] := by
  simpa [hm] using congrArg (·[i]) h

/-! ### The obligations about the window -/

/-- Settles O28: an accepted write is `writeRegister`, whose branch BUSY decides. -/
theorem busyWritesAreLost : Obligations.BusyWritesAreLost := by
  intro s host v rest
  refine ⟨fun hb => ⟨fun r hr hs => ?_, fun hs => ?_, fun hs => ?_, fun r hr => ?_⟩, fun hb => ?_⟩
  · exact ⟨_, (step_regWrite hs).trans (writeRegister_busy v hb hr), rfl,
      sameMachine_access { s with ovr := true } rest host .ok⟩
  · exact ⟨_, step_regWrite (r := .ctrl) hs, rfl, sameMachine_access { s with ie := v[0] } rest host .ok⟩
  · exact ⟨_, step_regWrite (r := .status) hs, rfl, rfl, sameMachine_access (s.acknowledge v) rest host .ok⟩
  · cases r with
    | status => exact absurd rfl hr
    | _ => rfl
  · obtain ⟨hsrc, hdst, hlen⟩ := writeRegister_idle (s := (s.withSchedule rest).answerHost host .ok) hb v
    exact ⟨fun hs => (step_regWrite (r := .cmd) hs).trans (if_neg (by simp [hb])),
      fun hs => (step_regWrite (r := .src) hs).trans hsrc,
      fun hs => (step_regWrite (r := .dst) hs).trans hdst,
      fun hs => (step_regWrite (r := .len) hs).trans hlen⟩

/-- Settles O29: each of the three writes stores one field that only its own register reads. -/
theorem operandRegistersHoldTheirValue : Obligations.OperandRegistersHoldTheirValue := by
  intro s host r v rest hb hr hs
  obtain ⟨hsrc, hdst, hlen⟩ := writeRegister_idle (s := (s.withSchedule rest).answerHost host .ok) hb v
  rw [step_regWrite hs]
  rcases hr with rfl | rfl | rfl
  · exact ⟨_, hsrc, rfl, fun q hq => by simp [State.readRegister_setSrc _ _ hq], rfl, rfl, rfl⟩
  · exact ⟨_, hdst, rfl, fun q hq => by simp [State.readRegister_setDst _ _ hq], rfl, rfl, rfl⟩
  · exact ⟨_, hlen, rfl, fun q hq => by simp [State.readRegister_setLen _ _ hq], rfl, rfl, rfl⟩

/-- Settles O30: the access is refused, reserved or a register's by `selectRegister`; the reserved bits are 0 by
the bits of each register. -/
theorem windowAccessRules : Obligations.WindowAccessRules := by
  refine ⟨?_, ?_, ?_, ?_, fun s => ⟨rfl, s.ctrlWord_reserved,
    s.statusWord_reserved, s.resultWord_reserved⟩, fun s v w => ⟨fun h => ?_, fun h => ?_⟩⟩
  · intro s host width offset v rest e he hs hbad
    refine ⟨(s.withSchedule rest).answerHost host .busError, ?_, rfl, rfl, sameMachine_access s rest host _⟩
    rcases he with rfl | rfl <;>
      simp [step_event hs, handle, hostRegRead, hostRegWrite, selectRegister_bad hbad]
  · intro s host offset v rest h4 h24
    refine ⟨fun hs => ⟨_, ?_, rfl, sameMachine_access s rest host _⟩,
      fun hs => ⟨_, ?_, rfl, sameMachine_access s rest host _⟩⟩ <;>
      simp [step_event hs, handle, hostRegRead, hostRegWrite, selectRegister_reserved h4 h24]
  · intro s host r v rest hr hs
    refine ⟨_, ?_, rfl, sameMachine_access s rest host .ok⟩
    rcases hr with rfl | rfl | rfl <;> simp [step_regWrite hs, writeRegister]
  · intro s host r rest hs
    exact ⟨_, step_regRead hs, rfl, rfl, sameMachine_access s rest host _⟩
  · simp [writeRegister, getElem_eq_of_and_eq (i := 0) h (by decide) (by decide)]
  · simp [writeRegister, acknowledge_congr s (getElem_eq_of_and_eq (i := 2) h (by decide) (by decide))
      (getElem_eq_of_and_eq (i := 4) h (by decide) (by decide))]

/-- Settles O31: a read of ID answers the constant, and a write to it changes no register. -/
theorem idReadsTheConstant : Obligations.IdReadsTheConstant := fun s host _ rest =>
  ⟨fun hs => ⟨_, step_regRead (r := .id) hs, rfl, sameMachine_access s rest host _⟩,
    fun hs => ⟨_, step_regWrite (r := .id) hs, rfl, sameMachine_access s rest host _⟩⟩

/-- Settles O32: the bits of STATUS by the lemmas about `statusWord`, the write by `acknowledge`. -/
theorem statusLayoutAndWrite : Obligations.StatusLayoutAndWrite := by
  refine ⟨by decide, fun s => ⟨s.statusWord_busy, s.statusWord_configured, s.statusWord_done, ?_,
    s.statusWord_ovr, ?_, s.statusWord_errcode, ?_⟩, fun s w hw => ?_⟩
  · simp [State.readRegister]
  · exact extractLsb'_eq_zero fun i hi => s.statusWord_getLsbD_reserved (by omega)
  · exact extractLsb'_eq_zero fun i hi => s.statusWord_getLsbD_reserved (by omega)
  · obtain ⟨host, rest, hs⟩ := step_of_writesNext hw
    refine ⟨_, hs, ?_, ?_, sameMachine_access (s.acknowledge w) rest host .ok⟩
    · cases h : w[2] <;> simp [h]
    · cases h : w[4] <;> simp [h]

/-- Settles O33: ERR and ERRCODE are read from one field, and bit 3 is none of the bits a write looks at. -/
theorem errBitIsDerived : Obligations.ErrBitIsDerived := by
  refine ⟨fun s => ?_, fun s w => ⟨acknowledge_congr s ?_ ?_, acknowledge_congr s ?_ ?_⟩⟩
  · simp [State.readRegister]
  all_goals simp

/-- Settles O34: `irq` is read from the same two fields as the two bits. -/
theorem irqFollowsEnableAndDone : Obligations.IrqFollowsEnableAndDone := by
  refine ⟨fun s => ?_, fun s w h2 hw => ?_, fun s w hw => ?_⟩
  · simp [State.readRegister, State.irq]
  · obtain ⟨host, rest, hs⟩ := step_of_writesNext hw
    exact ⟨_, hs, by simp [State.irq, h2]⟩
  · obtain ⟨host, rest, hs⟩ := step_of_writesNext hw
    exact ⟨_, hs, rfl, rfl⟩

/-! ### The obligations about reset -/

/-- After a reset every register reads as it does in the reset state (70_reset_and_hazards.md R240). -/
theorem resetBlock_readRegister (s : State) (r : Reg) :
    (resetBlock s).readRegister r = State.reset.readRegister r := by
  cases r <;> rfl

/-- Settles O55: every register is read from fields that `resetBlock` sets. -/
theorem resetSetsEveryRegister : Obligations.ResetSetsEveryRegister := by
  intro s hn
  obtain ⟨rest, hs⟩ := step_of_resetsNext hn
  refine ⟨_, hs, rfl, rfl, rfl, rfl, ?_⟩
  simp only [resetBlock_readRegister]
  refine ⟨by decide, by decide, by decide, by decide, by decide, by decide, by decide, by decide, rfl, ?_⟩
  simp +contextual [resetBlock_mem]

/-- Settles O57: the values stand in `State.reset`. -/
theorem resetStateHasTheListedValues : Obligations.ResetStateHasTheListedValues :=
  ⟨rfl, rfl, rfl, rfl, rfl, rfl, rfl, rfl, rfl, rfl, rfl, rfl, rfl, rfl, rfl⟩

end Sys2Proof.Machine
end

section
/-! PROOFS. What changes what: each register and flag changes only by the events that 10_state.md names for it.
Each proof goes through the effects a step can have. -/

namespace Sys2Proof.Machine

/-! ### What the named events do -/

/-- Two successors of one state are one. -/
theorem next_unique {s t u : State} (h : step s = .next t) (h' : step s = .next u) : t = u :=
  Host.Outcome.next.inj (h.symm.trans h')

/-- A step that is a reset leaves what `resetBlock` leaves. -/
theorem eq_resetBlock_of_resetsNext {s t : State} (h : step s = .next t) (hn : s.resetsNext) :
    ∃ rest, t = resetBlock (s.withSchedule rest) := by
  obtain ⟨rest, hs⟩ := step_of_resetsNext hn
  exact ⟨rest, next_unique h hs⟩

/-- A step that is a STATUS write acknowledges. -/
theorem eq_acknowledge_of_writesNext {s t : State} {v : Word} (h : step s = .next t)
    (hw : s.writesNext .status v) :
    ∃ host rest, t = ((s.withSchedule rest).answerHost host .ok).acknowledge v := by
  obtain ⟨host, rest, hs⟩ := step_of_writesNext hw
  exact ⟨host, rest, next_unique h hs⟩

/-- A step that is a lost write sets OVR alone. -/
theorem eq_overrun_of_writesNext {s t : State} {r : Reg} {v : Word} (h : step s = .next t)
    (hb : s.busy = true) (hr : r = .cmd ∨ r = .src ∨ r = .dst ∨ r = .len) (hw : s.writesNext r v) :
    ∃ host rest, t = ((s.withSchedule rest).answerHost host .ok).overrun := by
  obtain ⟨host, rest, hs⟩ := step_of_writesNext hw
  exact ⟨host, rest, next_unique h (hs.trans (writeRegister_busy v hb hr))⟩

/-- A step that is a CMD write while BUSY is 0 issues its word. -/
theorem issueEffect_of_writesNext {s t : State} {w : Word} (h : step s = .next t) (hb : s.busy = false)
    (hw : s.writesNext .cmd w) :
    ∃ host rest, IssueEffect w ((s.withSchedule rest).answerHost host .ok) t := by
  obtain ⟨host, rest, hs⟩ := step_of_idle_cmd hb hw
  exact ⟨host, rest, issue_effect (hs.symm.trans h)⟩

/-- Every end of the engine's command reports it (42_buffer_transform.md R175; 60_exceptions.md R206). -/
theorem engineStep_ends {s : State} (hb : s.busy = true) (he : (engineStep s).busy = false) :
    (engineStep s).done = true ∧
      (((engineStep s).errcode = .none ∧ (engineStep s).count = s.len) ∨
        ((engineStep s).errcode = .busErrorRead ∧ s.plat.answer s.readAddr .read = .busError) ∨
        ((engineStep s).errcode = .busErrorWrite ∧ s.plat.answer s.writeAddr .write = .busError)) := by
  rcases engineStep_cases s with ⟨h, -⟩ | ⟨-, e, -⟩ | ⟨-, hr, e⟩ | ⟨-, -, hw, e⟩ | ⟨-, -, -, hl, e⟩ |
    ⟨-, -, -, -, e⟩
  · simp [hb] at h
  · simp [e, hb] at he
  · exact e ▸ ⟨rfl, .inr (.inl ⟨rfl, hr⟩)⟩
  · exact e ▸ ⟨rfl, .inr (.inr ⟨rfl, hw⟩)⟩
  · exact e ▸ ⟨rfl, .inl ⟨rfl, hl⟩⟩
  · simp [e, hb] at he

/-- An engine step that does not end a command leaves its report alone, and none starts one. -/
theorem engineStep_report (s : State) :
    ((engineStep s).done = s.done ∧ (engineStep s).errcode = s.errcode ∧ (engineStep s).busy = s.busy) ∨
      (s.busy = true ∧ (engineStep s).busy = false) := by
  rcases engineStep_cases s with ⟨-, e⟩ | ⟨-, e, -⟩ | ⟨hb, -, e⟩ | ⟨hb, -, -, e⟩ | ⟨hb, -, -, -, e⟩ |
    ⟨-, -, -, -, e⟩
  · simp [e]
  · simp [e]
  · exact .inr ⟨hb, by simp [e, State.endReadError]⟩
  · exact .inr ⟨hb, by simp [e, State.endWriteError]⟩
  · exact .inr ⟨hb, by simp [e]⟩
  · simp [e]

/-- COUNT moves in an engine step only where the write of a byte completes (42_buffer_transform.md R175). -/
theorem engineStep_count (s : State) : (engineStep s).count = s.count ∨
    (s.busy = true ∧ s.plat.answer s.writeAddr .write = .ok ∧ (engineStep s).count = s.count + 1#32) := by
  rcases engineStep_cases s with ⟨-, e⟩ | ⟨-, e, -⟩ | ⟨-, -, e⟩ | ⟨-, -, -, e⟩ | ⟨hb, -, hw, -, e⟩ |
    ⟨hb, -, hw, -, e⟩
  · exact .inl (by rw [e])
  · exact .inl (by rw [e])
  · exact .inl (by simp [e, State.endReadError])
  · exact .inl (by simp [e, State.endWriteError])
  · exact .inr ⟨hb, hw, by simp [e]⟩
  · exact .inr ⟨hb, hw, by simp [e]⟩

/-! ### CTRL, CONFIGURED, DONE, OVR -/

/-- Settles O35: of the effects a step can have, only a CTRL write and a reset write IE. -/
theorem ctrlChangesOnlyByHostOrReset : Obligations.CtrlChangesOnlyByHostOrReset := by
  refine ⟨fun s => ⟨s.ctrlWord_ie, ?_, fun hie => by simp [State.irq, hie]⟩, fun s v hw => ?_,
    fun s t h => ⟨fun hne => ?_, fun hn => ?_⟩⟩
  · refine extractLsb'_eq_zero fun i _ => ?_
    simp [State.readRegister, State.ctrlWord_getLsbD]
  · obtain ⟨host, rest, hs⟩ := step_of_writesNext hw
    exact ⟨_, hs, rfl, sameMachine_access { s with ie := v[0] } rest host .ok⟩
  · cases step_effect h with
    | engine _ _ ht => simp [ht] at hne
    | reset _ hn _ => exact .inr hn
    | access hs _ => exact absurd hs.ie hne
    | ctrl _ _ v hw _ => exact .inl ⟨v, hw⟩
    | status _ _ _ _ ht => simp [ht] at hne
    | lost _ _ _ _ _ _ _ ht => simp [ht] at hne
    | stored _ _ _ _ ht => rcases ht with ht | ht | ht <;> simp [ht] at hne
    | issued _ _ _ _ _ hi =>
    obtain ⟨hie, -⟩ := hi.frame
    exact absurd hie hne
  · obtain ⟨rest, rfl⟩ := eq_resetBlock_of_resetsNext h hn
    rfl

/-- The configuration that an accepted CFG leaves is valid exactly for an odd multiplier
(40_configuration.md R114). -/
theorem cfg_valid_of_acceptsNext_cfg {s t : State} {a b : Byte} (h : step s = .next t)
    (ha : s.acceptsNext (.cfg a b)) : t.cfg.valid = true ↔ a.toNat % 2 = 1 := by
  obtain ⟨host, rest, hs⟩ := step_of_acceptsNext ha
  have he := hs.symm.trans h
  simp only [exec, execCfg] at he
  rw [← validMultiplier_iff]
  split at he
  next hv => simp [← Host.Outcome.next.inj he, hv, Cfg.construct]
  next hv => simp [← Host.Outcome.next.inj he, hv, Cfg.cleared]

/-- An accepted CLR leaves no configuration (40_configuration.md R115). -/
theorem cfg_valid_of_acceptsNext_clr {s t : State} (h : step s = .next t) (ha : s.acceptsNext .clr) :
    t.cfg.valid = false := by
  obtain ⟨host, rest, hs⟩ := step_of_acceptsNext ha
  exact next_unique h hs ▸ rfl

/-- Settles O36: the changes by the three kinds of configuration a step can leave. -/
theorem configuredChangesOnlyByCfgClrReset : Obligations.ConfiguredChangesOnlyByCfgClrReset := by
  intro s t h
  refine ⟨fun hs ht => ?_, fun hs ht => ?_, fun a b ha => cfg_valid_of_acceptsNext_cfg h ha, ?_,
    t.statusWord_configured⟩
  · rcases step_cfg_cases h with e | ⟨-, e⟩ | ⟨a, b, ha, hodd, -⟩
    · simp [e, hs] at ht
    · simp [e, Cfg.cleared] at ht
    · exact ⟨a, b, ha, hodd⟩
  · rcases step_cfg_cases h with e | ⟨hcause, -⟩ | ⟨a, b, -, -, e⟩
    · simp [e, hs] at ht
    · exact hcause
    · simp [e, Cfg.construct] at ht
  · rintro (ha | hn)
    · exact cfg_valid_of_acceptsNext_clr h ha
    · obtain ⟨rest, rfl⟩ := eq_resetBlock_of_resetsNext h hn
      rfl

/-- While a command runs, only the engine and a reset touch it: every other step leaves its operands, direction,
configuration, BUSY and COUNT (10_state.md R39; 42_buffer_transform.md R180). -/
theorem step_of_busy {s t : State} (h : step s = .next t) (hb : s.busy = true) :
    (s.enginesNext ∧ ∃ rest, t = engineStep (s.withSchedule rest)) ∨ s.resetsNext ∨
      (t.src = s.src ∧ t.dst = s.dst ∧ t.len = s.len ∧ t.cfg = s.cfg ∧ t.engOp = s.engOp ∧
        t.busy = true ∧ t.count = s.count) := by
  cases step_effect h with
  | engine rest hn ht => exact .inl ⟨hn, rest, ht⟩
  | reset _ hn _ => exact .inr (.inl hn)
  | access hs _ =>
    exact .inr (.inr ⟨hs.src, hs.dst, hs.len, hs.cfg, hs.engOp, hs.busy.trans hb, hs.count⟩)
  | ctrl _ _ _ _ ht => exact .inr (.inr (by simp [ht, hb]))
  | status _ _ _ _ ht => exact .inr (.inr (by simp [ht, hb]))
  | lost _ _ _ _ _ _ _ ht => exact .inr (.inr (by simp [ht, hb]))
  | stored _ _ _ hidle _ => simp [hb] at hidle
  | issued _ _ _ hidle _ _ => simp [hb] at hidle

/-- DONE falls only by an acknowledge, an accepted command or a reset (10_state.md R29). -/
theorem done_fall {s t : State} (h : step s = .next t) (hs : s.done = true) (ht : t.done = false) :
    (∃ v, s.writesNext .status v ∧ v[2] = true) ∨ (∃ i, s.acceptsNext i) ∨ s.resetsNext := by
  cases step_effect h with
  | engine rest _ e =>
    subst e
    rcases engineStep_report (s.withSchedule rest) with ⟨hd, -, -⟩ | ⟨hb, he⟩
    · simp [hd, hs] at ht
    · simp [(engineStep_ends hb he).1] at ht
  | reset _ hn _ => exact .inr (.inr hn)
  | access hsame _ => simp [hsame.done, hs] at ht
  | ctrl _ _ _ _ e => simp [e, hs] at ht
  | status _ _ v hw e => exact .inl ⟨v, hw, by simpa [e, hs] using ht⟩
  | lost _ _ _ _ _ _ _ e => simp [e, hs] at ht
  | stored _ _ _ _ e => rcases e with e | e | e <;> simp [e, hs] at ht
  | issued _ _ w hb hw hi =>
    obtain ⟨hd, -⟩ := hi.started_of_busy (by simpa [hi.done_eq] using ht)
    rcases hd with hd | hd
    · exact .inr (.inl ⟨_, hb, w, hw, hd⟩)
    · exact .inr (.inl ⟨_, hb, w, hw, hd⟩)

/-- Settles O37: the fall by `done_fall`, the rest by what each named event does. -/
theorem doneIsClearedOnlyBy : Obligations.DoneIsClearedOnlyBy := by
  intro s t h
  refine ⟨done_fall h, ?_, fun w hb hw => ?_, fun hb ht hn => ?_, fun v hb hw => ?_⟩
  · rintro (⟨v, hw, h2⟩ | hn)
    · obtain ⟨host, rest, rfl⟩ := eq_acknowledge_of_writesNext h hw
      simp [h2]
    · obtain ⟨rest, rfl⟩ := eq_resetBlock_of_resetsNext h hn
      rfl
  · obtain ⟨host, rest, hi⟩ := issueEffect_of_writesNext h hb hw
    exact hi.done_eq
  · rcases step_of_busy h hb with ⟨-, rest, rfl⟩ | hr | ⟨-, -, -, -, -, hbusy, -⟩
    · exact (engineStep_ends (s := s.withSchedule rest) hb ht).1
    · exact absurd hr hn
    · simp [hbusy] at ht
  · obtain ⟨host, rest, rfl⟩ := eq_overrun_of_writesNext h hb (.inl rfl) hw
    simp

/-- OVR after a step: set by a lost write, cleared by an acknowledge or a reset, and else as before
(10_state.md R31). -/
theorem step_ovr_cases {s t : State} (h : step s = .next t) :
    t.ovr = s.ovr ∨
      (t.ovr = true ∧ s.busy = true ∧
        ∃ r v, (r = .cmd ∨ r = .src ∨ r = .dst ∨ r = .len) ∧ s.writesNext r v) ∨
      (t.ovr = false ∧ ((∃ v, s.writesNext .status v ∧ v[4] = true) ∨ s.resetsNext)) := by
  cases step_effect h with
  | engine _ _ ht => exact .inl (by simp [ht])
  | reset _ hn ht => exact .inr (.inr ⟨by simp [ht], .inr hn⟩)
  | access hs _ => exact .inl hs.ovr
  | ctrl _ _ _ _ ht => exact .inl (by simp [ht])
  | status _ _ v hw ht =>
    cases h4 : v[4] with
    | false => exact .inl (by simp [ht, h4])
    | true => exact .inr (.inr ⟨by simp [ht, h4], .inl ⟨v, hw, h4⟩⟩)
  | lost _ _ r v hb hr hw ht => exact .inr (.inl ⟨by simp [ht], hb, r, v, hr, hw⟩)
  | stored _ _ _ _ ht => rcases ht with ht | ht | ht <;> exact .inl (by simp [ht])
  | issued _ _ _ _ _ hi =>
    obtain ⟨-, hovr, -⟩ := hi.frame
    exact .inl hovr

/-- Settles O38: the changes by `step_ovr_cases`, and each named event makes its change. -/
theorem ovrIsSetAndClearedOnlyBy : Obligations.OvrIsSetAndClearedOnlyBy := by
  intro s t h
  refine ⟨fun hs => ⟨fun ht => ?_, ?_⟩, fun hs => ⟨fun ht => ?_, ?_⟩⟩
  · rcases step_ovr_cases h with e | ⟨-, hcause⟩ | ⟨e, -⟩
    · simp [e, hs] at ht
    · exact hcause
    · simp [e] at ht
  · rintro ⟨hb, r, v, hr, hw⟩
    obtain ⟨host, rest, rfl⟩ := eq_overrun_of_writesNext h hb hr hw
    rfl
  · rcases step_ovr_cases h with e | ⟨e, -⟩ | ⟨-, hcause⟩
    · simp [e, hs] at ht
    · simp [e] at ht
    · exact hcause
  · rintro (⟨v, hw, h4⟩ | hn)
    · obtain ⟨host, rest, rfl⟩ := eq_acknowledge_of_writesNext h hw
      simp [h4]
    · obtain ⟨rest, rfl⟩ := eq_resetBlock_of_resetsNext h hn
      rfl

/-! ### RESULT, ERRCODE, COUNT, BUSY -/

/-- Settles O39: only the effects of an issued word and a reset write RESULT. -/
theorem resultChangesOnlyBy : Obligations.ResultChangesOnlyBy := by
  refine fun s t => ⟨s.resultWord_toNat, fun h hne => ?_⟩
  cases step_effect h with
  | engine _ _ ht => simp [ht] at hne
  | reset _ hn ht => exact .inr (.inr (.inr (.inr ⟨hn, by simp [ht]⟩)))
  | access hs _ => exact absurd hs.result hne
  | ctrl _ _ _ _ ht => simp [ht] at hne
  | status _ _ _ _ ht => simp [ht] at hne
  | lost _ _ _ _ _ _ _ ht => simp [ht] at hne
  | stored _ _ _ _ ht => rcases ht with ht | ht | ht <;> simp [ht] at hne
  | issued _ _ w hb hw hi =>
    cases hi with
    | reported _ ht => simp [ht] at hne
    | latched _ _ _ _ ht => simp [ht] at hne
    | discarded _ hd ht =>
      rcases hd with ⟨a, b, hd, ha⟩ | hd
      · exact .inr (.inr (.inr (.inl ⟨a, b, ⟨hb, w, hw, hd⟩, ha, by simp [ht]⟩)))
      · exact .inr (.inr (.inl ⟨⟨hb, w, hw, hd⟩, by simp [ht]⟩))
    | computed _ x hd hv ht =>
      rcases hd with ⟨hd, rfl⟩ | ⟨hd, rfl⟩
      · exact .inl ⟨x, ⟨hb, w, hw, hd⟩, hv, by simp [ht, Cfg.transform]⟩
      · exact .inr (.inl ⟨x, ⟨hb, w, hw, hd⟩, hv, by simp [ht, Cfg.transform]⟩)
    | emptied _ ht => simp [ht] at hne
    | started _ _ _ _ _ _ ht => simp [ht] at hne

/-- BUSY rises only in the CMD write that starts a buffer command (10_state.md R27). -/
theorem busy_rise {s t : State} (h : step s = .next t) (hs : s.busy = false) (ht : t.busy = true) :
    (s.acceptsNext .encbuf ∨ s.acceptsNext .decbuf) ∧ t.done = false ∧ t.errcode = .none ∧
      t.count = 0#32 := by
  cases step_effect h with
  | engine rest _ e =>
    rcases engineStep_report (s.withSchedule rest) with ⟨-, -, hb⟩ | ⟨hb, -⟩
    · simp [e, hb, hs] at ht
    · simp [hs] at hb
  | reset _ _ e => simp [e] at ht
  | access hsame _ => simp [hsame.busy, hs] at ht
  | ctrl _ _ _ _ e => simp [e, hs] at ht
  | status _ _ _ _ e => simp [e, hs] at ht
  | lost _ _ _ _ hb _ _ _ => simp [hs] at hb
  | stored _ _ _ _ e => rcases e with e | e | e <;> simp [e, hs] at ht
  | issued _ _ w hb hw hi =>
    obtain ⟨hd, hrest⟩ := hi.started_of_busy ht
    exact ⟨acceptsNext_buffer hb hw hd, hrest⟩

/-- ERRCODE changes only by a CMD write while BUSY is 0, by an end of the engine's command and by a reset
(10_state.md R32). -/
theorem errcode_change {s t : State} (h : step s = .next t) (hne : t.errcode ≠ s.errcode) :
    (s.busy = false ∧ ∃ w, s.writesNext .cmd w) ∨ (s.enginesNext ∧ s.busy = true ∧ t.busy = false) ∨
      (s.resetsNext ∧ t.errcode = .none) := by
  cases step_effect h with
  | engine rest hn ht =>
    subst ht
    rcases engineStep_report (s.withSchedule rest) with ⟨-, he, -⟩ | ⟨hb, he⟩
    · exact absurd he hne
    · exact .inr (.inl ⟨hn, hb, he⟩)
  | reset _ hn ht => exact .inr (.inr ⟨hn, by simp [ht]⟩)
  | access hs _ => exact absurd hs.errcode hne
  | ctrl _ _ _ _ ht => simp [ht] at hne
  | status _ _ _ _ ht => simp [ht] at hne
  | lost _ _ _ _ _ _ _ ht => simp [ht] at hne
  | stored _ _ _ _ ht => rcases ht with ht | ht | ht <;> simp [ht] at hne
  | issued _ _ w hb hw _ => exact .inl ⟨hb, w, hw⟩

/-- Settles O40: the changes by `errcode_change`, the start by `busy_rise`, the bound by the seven codes. -/
theorem errcodeChangesOnlyBy : Obligations.ErrcodeChangesOnlyBy := by
  refine fun s t h => ⟨errcode_change h, fun hs ht => ?_, ?_⟩
  · obtain ⟨-, -, he, -⟩ := busy_rise h hs ht
    exact he
  · simp only [State.readRegister, State.statusWord_errcode]
    exact t.errcode.code_le_six

/-- Settles O41: a buffer command past its checks, the engine's completed write, or a reset. -/
theorem countChangesOnlyBy : Obligations.CountChangesOnlyBy := by
  intro s t h hne
  cases step_effect h with
  | engine rest hn ht =>
    subst ht
    rcases engineStep_count (s.withSchedule rest) with hc | ⟨hb, hw, hc⟩
    · exact absurd hc hne
    · exact .inr (.inl ⟨hn, hb, hw, hc⟩)
  | reset _ hn ht => exact .inr (.inr ⟨hn, by simp [ht]⟩)
  | access hs _ => exact absurd hs.count hne
  | ctrl _ _ _ _ ht => simp [ht] at hne
  | status _ _ _ _ ht => simp [ht] at hne
  | lost _ _ _ _ _ _ _ ht => simp [ht] at hne
  | stored _ _ _ _ ht => rcases ht with ht | ht | ht <;> simp [ht] at hne
  | issued _ _ w hb hw hi =>
    cases hi with
    | reported _ ht => simp [ht] at hne
    | latched _ _ _ _ ht => simp [ht] at hne
    | discarded _ _ ht => simp [ht] at hne
    | computed _ _ _ _ ht => simp [ht] at hne
    | emptied hd ht =>
      exact .inl ⟨acceptsNext_buffer hb hw hd, by simp [ht]⟩
    | started _ hd _ _ _ _ ht =>
      exact .inl ⟨acceptsNext_buffer hb hw hd, by simp [ht]⟩

/-- Settles O42: the rise by `busy_rise`, the running command by `step_of_busy` and the engine's ends. -/
theorem runningCommandIsNotInterrupted : Obligations.RunningCommandIsNotInterrupted := by
  intro s t h
  refine ⟨fun hs ht => ?_, fun hb hn => ?_, fun hn => ?_⟩
  · obtain ⟨ha, hd, -, hc⟩ := busy_rise h hs ht
    exact ⟨ha, hd, hc⟩
  · rcases step_of_busy h hb with ⟨he, rest, rfl⟩ | hr | ⟨hsrc, hdst, hlen, hcfg, hop, hbusy, hcount⟩
    · refine ⟨by simp, by simp, by simp, by simp, by simp, fun hne => absurd he hne, fun ht => ?_⟩
      exact engineStep_ends (s := s.withSchedule rest) hb ht
    · exact absurd hr hn
    · exact ⟨hsrc, hdst, hlen, hcfg, hop, fun _ => ⟨hbusy, hcount⟩, fun ht => by simp [hbusy] at ht⟩
  · obtain ⟨rest, rfl⟩ := eq_resetBlock_of_resetsNext h hn
    rfl

end Sys2Proof.Machine
end

section
/-! PROOFS. The key reaches a host only through the transforms (10_state.md R41): every other step does the same
under another configuration with the same VALID. -/

namespace Sys2Proof.Machine

/-- `f` does the same from `s` under every configuration with the same VALID: it ends in the same state but for
the configuration, whose VALID is the same again. -/
def IgnoresKey (f : State → Host.Outcome State Fault Refusal) (s : State) : Prop :=
  ∀ (c : Cfg) (t : State), c.valid = s.cfg.valid → f s = .next t →
    ∃ c', c'.valid = t.cfg.valid ∧ f (s.setCfg c) = .next (t.setCfg c')

/-- An update that keeps the configuration and commutes with replacing it ignores the key. -/
theorem ignoresKey_of_commutes {g : State → State} {s : State} (hc : (g s).cfg = s.cfg)
    (h : ∀ c : Cfg, c.valid = s.cfg.valid → g (s.setCfg c) = (g s).setCfg c) :
    IgnoresKey (fun u => .next (g u)) s := by
  intro c t hv ht
  cases ht
  exact ⟨c, by rw [hc, hv], congrArg _ (h c hv)⟩

/-- An update that fixes the configuration's new value ignores the key. -/
theorem ignoresKey_of_overwrites {g : State → State} {s : State} (h : ∀ c, g (s.setCfg c) = g s) :
    IgnoresKey (fun u => .next (g u)) s := by
  intro c t _ ht
  cases ht
  exact ⟨(g s).cfg, rfl, congrArg _ (h c)⟩

/-- A choice between two parts that ignore the key does so too, when the test does not read it. -/
theorem IgnoresKey.ite {p : State → Prop} [DecidablePred p] {f g : State → Host.Outcome State Fault Refusal}
    {s : State} (hp : ∀ c : Cfg, c.valid = s.cfg.valid → (p (s.setCfg c) ↔ p s))
    (hf : p s → IgnoresKey f s) (hg : ¬p s → IgnoresKey g s) :
    IgnoresKey (fun u => if p u then f u else g u) s := by
  intro c t hv h
  simp only [hp c hv]
  by_cases h' : p s
  · simp only [if_pos h'] at h ⊢
    exact hf h' c t hv h
  · simp only [if_neg h'] at h ⊢
    exact hg h' c t hv h

/-- What is refused has no successor. -/
theorem ignoresKey_of_refuses (r : Refusal) (s : State) : IgnoresKey (fun _ => .refused r) s :=
  fun _ _ _ h => nomatch h

/-! ### Reads -/

/-- No register read returns the key (10_state.md R41). -/
theorem State.readRegister_setCfg {s : State} {c : Cfg} (hv : c.valid = s.cfg.valid) (r : Reg) :
    (s.setCfg c).readRegister r = s.readRegister r := by
  cases r with
  | status => simp [State.readRegister, State.statusWord, State.err, hv]
  | _ => rfl

theorem hostRegRead_ignoresKey (host : Nat) (width : AccessWidth) (offset : BitVec 6) (s : State) :
    IgnoresKey (fun u => .next (hostRegRead host width offset u)) s := by
  refine ignoresKey_of_commutes ?_ fun c hv => ?_
  · obtain ⟨r, e⟩ := hostRegRead_eq host width offset s
    simp [e]
  · unfold hostRegRead
    cases selectRegister width offset with
    | register r => simp only [State.readRegister_setCfg hv]; rfl
    | _ => rfl

/-! ### Host memory and reset -/

theorem hostMemRead_ignoresKey (host : Nat) (cached : Bool) (a : Word) (s : State) :
    IgnoresKey (fun u => .next (hostMemRead host cached a u)) s := by
  refine ignoresKey_of_commutes ?_ fun c _ => ?_
  · obtain ⟨r, e | e⟩ := hostMemRead_cases host cached a s <;> simp [e]
  · simp only [hostMemRead, apply_ite (State.setCfg · c)]
    rfl

theorem State.taint_setCfg (s : State) (c : Cfg) (a : Word) :
    (s.setCfg c).taint a = (s.taint a).setCfg c := by
  simp only [State.taint, apply_ite (State.setCfg · c)]
  rfl

theorem hostRace_setCfg (a : Word) (s : State) (c : Cfg) :
    hostRace a (s.setCfg c) = (hostRace a s).setCfg c := by
  have hs : (s.setCfg c).inSource a = s.inSource a := rfl
  have hd : (s.setCfg c).inDest a = s.inDest a := rfl
  simp only [hostRace, State.setCfg_busy, hs, hd]
  split <;> split <;> simp [State.taint_setCfg]

theorem hostStore_setCfg (cached : Bool) (a : Word) (v : Byte) (s : State) (c : Cfg) :
    hostStore cached a v (s.setCfg c) = (hostStore cached a v s).setCfg c := by
  simp only [hostStore, apply_ite (State.setCfg · c)]
  rfl

theorem hostMemWrite_ignoresKey (host : Nat) (cached : Bool) (a : Word) (v : Byte) (s : State) :
    IgnoresKey (fun u => .next (hostMemWrite host cached a v u)) s := by
  refine ignoresKey_of_commutes ?_ fun c _ => ?_
  · rcases hostMemWrite_cases host cached a v s with e | e | e <;> simp [e]
  · simp only [hostMemWrite, hostStore_setCfg, hostRace_setCfg, apply_ite (State.setCfg · c)]
    rfl

theorem resetBlock_ignoresKey (s : State) : IgnoresKey (fun u => .next (resetBlock u)) s :=
  ignoresKey_of_overwrites fun c => by cases hb : s.busy <;> simp [resetBlock, hb]

/-! ### Commands -/

/-- The checks of a buffer command read VALID and the operands alone (42_buffer_transform.md R174). -/
theorem startBuffer_ignoresKey (op : EngOp) (s : State) : IgnoresKey (startBuffer op) s := by
  refine .ite (fun c hv => by simp [hv]) (fun _ => ignoresKey_of_commutes rfl fun _ _ => rfl) fun _ => ?_
  refine .ite (fun _ _ => Iff.rfl) (fun _ => ignoresKey_of_commutes rfl fun _ _ => rfl) fun _ => ?_
  refine .ite (fun _ _ => Iff.rfl) (fun _ => ignoresKey_of_commutes rfl fun _ _ => rfl) fun _ => ?_
  exact .ite (fun _ _ => Iff.rfl) (fun _ => ignoresKey_of_refuses _ s)
    fun _ => ignoresKey_of_commutes rfl fun _ _ => rfl

/-- CFG replaces the configuration (40_configuration.md R114). -/
theorem execCfg_ignoresKey (a b : Byte) (s : State) : IgnoresKey (execCfg a b) s :=
  .ite (fun _ _ => Iff.rfl) (fun _ => ignoresKey_of_overwrites fun _ => rfl)
    fun _ => ignoresKey_of_overwrites fun _ => rfl

theorem exec_ignoresKey {i : Instr} (s : State) (hx : ∀ x, i ≠ .encb x) (hy : ∀ y, i ≠ .decb y) :
    IgnoresKey (exec i) s := by
  cases i with
  | nop => exact ignoresKey_of_commutes (g := State.complete) rfl fun _ _ => rfl
  | cfg a b => exact execCfg_ignoresKey a b s
  | encb x => exact absurd rfl (hx x)
  | decb y => exact absurd rfl (hy y)
  | encbuf => exact startBuffer_ignoresKey .enc s
  | decbuf => exact startBuffer_ignoresKey .dec s
  | clr => exact ignoresKey_of_overwrites (g := fun u => u.discard.complete) fun _ => rfl

theorem issue_ignoresKey {w : Word} (s : State) (hx : ∀ x, decode w ≠ .command (.encb x))
    (hy : ∀ y, decode w ≠ .command (.decb y)) : IgnoresKey (issue w) s := by
  unfold issue
  cases hd : decode w with
  | command i => exact exec_ignoresKey s.accept (fun x e => hx x (e ▸ hd)) (fun y e => hy y (e ▸ hd))
  | invalid => exact ignoresKey_of_commutes (g := fun u => u.accept.raise .invalidCommand) rfl fun _ _ => rfl

/-! ### Steps -/

/-- A write that BUSY may turn into an overrun ignores the key when the write itself does. -/
theorem ignoresKey_of_lostOr {g : State → State} {s : State} (hc : (g s).cfg = s.cfg)
    (h : ∀ c, g (s.setCfg c) = (g s).setCfg c) :
    IgnoresKey (fun u => .next (if u.busy then u.overrun else g u)) s := by
  refine ignoresKey_of_commutes ?_ fun c _ => ?_
  · split
    · rfl
    · exact hc
  · simp only [State.setCfg_busy, h, apply_ite (State.setCfg · c)]
    rfl

/-- A write to a register ignores the key where the command it may issue does. -/
theorem writeRegister_ignoresKey (r : Reg) (v : Word) (s : State)
    (hi : r = .cmd → s.busy = false → IgnoresKey (issue v) s) : IgnoresKey (writeRegister r v) s := by
  cases r with
  | ctrl => exact ignoresKey_of_commutes (g := (·.setIe v[0])) rfl fun _ _ => rfl
  | status => exact ignoresKey_of_commutes (g := (·.acknowledge v)) rfl fun _ _ => rfl
  | id | result | count => exact ignoresKey_of_commutes (g := id) rfl fun _ _ => rfl
  | src => exact ignoresKey_of_lostOr (g := (·.setSrc v)) rfl fun _ => rfl
  | dst => exact ignoresKey_of_lostOr (g := (·.setDst v)) rfl fun _ => rfl
  | len => exact ignoresKey_of_lostOr (g := (·.setLen v)) rfl fun _ => rfl
  | cmd =>
    exact .ite (fun _ _ => Iff.rfl) (fun _ => ignoresKey_of_commutes rfl fun _ _ => rfl)
      fun hb => hi rfl (by simpa using hb)

/-- A host write to the window ignores the key where the command it may issue does. -/
theorem hostRegWrite_ignoresKey (host : Nat) (width : AccessWidth) (offset : BitVec 6) (v : Word) (s : State)
    (hi : selectRegister width offset = .register .cmd → s.busy = false →
      IgnoresKey (issue v) (s.answerHost host .ok)) :
    IgnoresKey (hostRegWrite host width offset v) s := by
  unfold hostRegWrite
  cases hr : selectRegister width offset with
  | busError => exact ignoresKey_of_commutes rfl fun _ _ => rfl
  | reserved => exact ignoresKey_of_commutes rfl fun _ _ => rfl
  | register r =>
    exact writeRegister_ignoresKey r v (s.answerHost host .ok) fun he hb => hi (he ▸ hr) hb

theorem engineStep_idle {s : State} (hb : s.busy = false) : engineStep s = s := by
  simp [engineStep, hb]

/-- The engine does nothing while BUSY is 0, so it ignores the key then. -/
theorem engineStep_ignoresKey {s : State} (hb : s.busy = false) :
    IgnoresKey (fun u => .next (engineStep u)) s := by
  refine ignoresKey_of_commutes (by simp) fun c _ => ?_
  rw [engineStep_idle hb, engineStep_idle (s := s.setCfg c) hb]

/-- Every agent's step ignores the key but a running engine's and one that issues ENCB or DECB. -/
theorem handle_ignoresKey (e : Event) (s : State) (hb : e = .engine → s.busy = false)
    (hi : ∀ host w, e = .regWrite host .w32 Reg.cmd.offset w → s.busy = false →
      IgnoresKey (issue w) (s.answerHost host .ok)) : IgnoresKey (handle e) s := by
  cases e with
  | regRead host width offset => exact hostRegRead_ignoresKey host width offset s
  | regWrite host width offset v =>
    refine hostRegWrite_ignoresKey host width offset v s fun hr hidle => ?_
    obtain ⟨rfl, rfl⟩ := selectRegister_inv hr
    exact hi host v rfl hidle
  | memRead host cached a => exact hostMemRead_ignoresKey host cached a s
  | memWrite host cached a v => exact hostMemWrite_ignoresKey host cached a v s
  | engine => exact engineStep_ignoresKey (hb rfl)
  | reset => exact resetBlock_ignoresKey s

/-- A step ignores the key unless it is the running engine's or accepts ENCB or DECB (10_state.md R41). -/
theorem step_ignoresKey {s : State} (he : ¬(s.busy = true ∧ s.enginesNext))
    (hx : ∀ x, ¬s.acceptsNext (.encb x)) (hy : ∀ y, ¬s.acceptsNext (.decb y)) : IgnoresKey step s := by
  intro c t hv h
  have hidle (hn : s.enginesNext) : s.busy = false := by
    cases hb : s.busy
    · rfl
    · exact absurd ⟨hb, hn⟩ he
  cases hs : s.schedule with
  | nil =>
    rw [step_engine hs] at h
    rw [step_engine (s := s.setCfg c) hs]
    exact engineStep_ignoresKey (hidle (.inl hs)) c t hv h
  | cons e rest =>
    rw [step_event hs] at h
    rw [step_event (s := s.setCfg c) hs]
    refine handle_ignoresKey e (s.withSchedule rest) (fun hee => hidle (.inr ⟨rest, hee ▸ hs⟩))
      (fun host w hew hb => ?_) c t hv h
    have hw : s.writesNext .cmd w := ⟨host, rest, hew ▸ hs⟩
    exact issue_ignoresKey _ (fun x hd => hx x ⟨hb, w, hw, hd⟩) (fun y hd => hy y ⟨hb, w, hw, hd⟩)

/-- Settles O45: the reads by `readRegister_setCfg`, the steps by `step_ignoresKey`. -/
theorem keyIsSeenOnlyThroughTransforms : Obligations.KeyIsSeenOnlyThroughTransforms :=
  fun _ t c hv => ⟨State.readRegister_setCfg hv, fun he hx hy h => step_ignoresKey he hx hy c t hv h⟩

end Sys2Proof.Machine
end

section
/-! PROOFS. Memory and the engine (20_memory.md): which ranges stop a command (R68), what can change a byte of
memory (R66), and what a race with a running command leaves (R73). -/

namespace Sys2Proof.Machine

/-! ### The refusal (20_memory.md R68) -/

/-- A range meets the window where the source or the destination does. -/
theorem windowClear_eq_false_iff (s : State) : s.windowClear = false ↔
    ∃ a : Nat, s.plat.regBase ≤ a ∧ a < s.plat.regBase + 64 ∧
      ((s.src.toNat ≤ a ∧ a < s.src.toNat + s.len.toNat) ∨
        (s.dst.toNat ≤ a ∧ a < s.dst.toNat + s.len.toNat)) := by
  have hor : s.windowClear = false ↔ s.plat.meetsWindow s.src.toNat s.len.toNat = true ∨
      s.plat.meetsWindow s.dst.toNat s.len.toNat = true := by
    simp only [State.windowClear, Bool.and_eq_false_iff, Bool.not_eq_false']
  rw [hor, Platform.meetsWindow_iff, Platform.meetsWindow_iff, ← exists_or]
  simp only [← and_or_left]

/-- A range of no bytes meets nothing. -/
theorem len_ne_zero_of_windowClear {s : State} (h : s.windowClear = false) : s.len ≠ 0#32 := by
  obtain ⟨a, -, -, ha⟩ := (windowClear_eq_false_iff s).mp h
  intro h0
  simp only [h0, BitVec.toNat_ofNat] at ha
  omega

/-- A buffer command is refused exactly where its checks pass and a range meets the window. -/
theorem startBuffer_refused_iff {op : EngOp} {s : State} {r : Refusal} : startBuffer op s = .refused r ↔
    s.cfg.valid = true ∧ s.rangeOk = true ∧ r = .rangeInWindow ∧ s.windowClear = false := by
  constructor
  · intro h
    obtain ⟨hv, hr, -, hw, e⟩ := startBuffer_refused h
    exact ⟨hv, hr, e, hw⟩
  · rintro ⟨hv, hr, rfl, hw⟩
    simp [startBuffer, hv, hr, hw, len_ne_zero_of_windowClear hw]

theorem byteCommand_not_refused (op : EngOp) (x : Byte) (s : State) (r : Refusal) :
    byteCommand op x s ≠ .refused r := by
  unfold byteCommand
  split <;> nofun

theorem execCfg_not_refused (a b : Byte) (s : State) (r : Refusal) : execCfg a b s ≠ .refused r := by
  unfold execCfg
  split <;> nofun

/-- Only a buffer command is refused, and then as `startBuffer` is. -/
theorem exec_refused_iff {i : Instr} {s : State} {r : Refusal} : exec i s = .refused r ↔
    (i = .encbuf ∨ i = .decbuf) ∧
      s.cfg.valid = true ∧ s.rangeOk = true ∧ r = .rangeInWindow ∧ s.windowClear = false := by
  cases i with
  | encbuf => simpa [exec, execEncbuf] using startBuffer_refused_iff (op := .enc)
  | decbuf => simpa [exec, execDecbuf] using startBuffer_refused_iff (op := .dec)
  | encb x => simpa [exec, execEncb] using byteCommand_not_refused .enc x s r
  | decb y => simpa [exec, execDecb] using byteCommand_not_refused .dec y s r
  | cfg a b => simpa [exec] using execCfg_not_refused a b s r
  | nop | clr => simp [exec, execNop, execClr]

/-- Settles O23: `startBuffer` is the one meaning that refuses, and only for a range in the window. -/
theorem onlyWindowRangesAreRefused : Obligations.OnlyWindowRangesAreRefused := by
  intro i s r
  rw [exec_refused_iff, windowClear_eq_false_iff]

/-! ### What changes a byte of memory -/

/-- An engine step leaves every byte but the one it writes and the raced ones. -/
theorem engineStep_read_other {s : State} {a : Word} (hw : a ≠ s.writeAddr) (ht : a ∉ s.tainted) :
    (engineStep s).mem.read a.toNat = s.mem.read a.toNat := by
  have hne {b : Word} (h : a ≠ b) : a.toNat ≠ b.toNat := fun e => h (BitVec.eq_of_toNat_eq e)
  have hraced : ∀ b ∈ s.tainted, a.toNat ≠ b.toNat := fun b hb => hne fun e => ht (e ▸ hb)
  have hmove : s.moveByte.mem.read a.toNat = s.mem.read a.toNat := Memory.read_write_other _ _ (hne hw)
  rcases engineStep_cases s with ⟨-, e⟩ | ⟨-, e, -⟩ | ⟨-, -, e⟩ | ⟨-, -, -, e⟩ | ⟨-, -, -, -, e⟩ |
    ⟨-, -, -, -, e⟩
  · rw [e]
  · rw [e]
  · rw [e]
    exact Memory.read_drawAll_other _ _ _ hraced
  · rw [e]
    exact (Memory.read_drawAll_other _ _ _ hraced).trans (Memory.read_write_other _ _ (hne hw))
  · rw [e]
    exact (Memory.read_drawAll_other _ _ _ (by simpa using hraced)).trans hmove
  · rw [e]
    exact hmove

/-- The engine writes inside the destination range (42_buffer_transform.md R175). -/
theorem inDest_writeAddr {s : State} (h : s.RunConsistent) (hb : s.busy = true) :
    s.inDest s.writeAddr = true := by
  obtain ⟨-, -, -, hc, hr, -⟩ := h hb
  obtain ⟨-, hdst, -⟩ := s.rangeOk_iff.mp hr
  rw [State.inDest_iff, State.writeAddr, add_index_toNat hdst hc]
  omega

/-- An engine step changes memory only while a command runs, and only in its destination range. -/
theorem engineStep_changes_dest {s : State} {a : Word} (h : s.RunInv)
    (hne : (engineStep s).mem.read a.toNat ≠ s.mem.read a.toNat) : s.busy = true ∧ s.inDest a = true := by
  obtain ⟨hrun, ⟨-, -, hin⟩, -⟩ := h
  cases hb : s.busy with
  | false => simp [engineStep_idle hb] at hne
  | true =>
    refine ⟨rfl, ?_⟩
    by_cases hw : a = s.writeAddr
    · exact hw ▸ inDest_writeAddr hrun hb
    · by_cases ht : a ∈ s.tainted
      · exact List.all_eq_true.mp hin a ht
      · exact absurd (engineStep_read_other hw ht) hne

/-- The addresses a reset draws lie in the destination range (70_reset_and_hazards.md R241). -/
theorem inDest_of_mem_addressRange {s : State} {a : Word} (hr : s.rangeOk = true)
    (ha : a ∈ addressRange s.dst s.len.toNat) : s.inDest a = true := by
  obtain ⟨-, hdst, -⟩ := s.rangeOk_iff.mp hr
  obtain ⟨i, hi, rfl⟩ := List.mem_map.mp ha
  have hi' : i < s.len.toNat := List.mem_range.mp hi
  have hiw : (BitVec.ofNat 32 i).toNat = i := by
    rw [BitVec.toNat_ofNat, Nat.mod_eq_of_lt (hi'.trans s.len.isLt)]
  rw [State.inDest_iff, add_index_toNat (len := s.len) hdst (by omega)]
  omega

/-- A reset changes memory only while a command runs, and only in its destination range. -/
theorem resetBlock_changes_dest {s : State} {a : Word} (h : s.RunConsistent)
    (hne : (resetBlock s).mem.read a.toNat ≠ s.mem.read a.toNat) : s.busy = true ∧ s.inDest a = true := by
  rw [resetBlock_mem] at hne
  cases hb : s.busy with
  | false => simp [hb] at hne
  | true =>
    obtain ⟨-, -, -, -, hr, -⟩ := h hb
    refine ⟨rfl, Classical.byContradiction fun hd => hne ?_⟩
    rw [if_pos hb]
    refine Memory.read_drawAll_other _ _ _ fun b hmem e => hd ?_
    exact BitVec.eq_of_toNat_eq e ▸ inDest_of_mem_addressRange hr hmem

/-- A write to the register window leaves memory alone, whatever command it issues. -/
theorem writeRegister_read {r : Reg} {v : Word} {s t : State} (h : writeRegister r v s = .next t) (a : Nat) :
    t.mem.read a = s.mem.read a := by
  rcases writeRegister_cases h with ⟨-, rfl⟩ | ⟨-, rfl⟩ | ⟨-, -, rfl⟩ | ⟨-, -, hi⟩ | ⟨-, -, rfl⟩ |
    ⟨-, -, rfl⟩ | ⟨-, -, rfl⟩ | ⟨-, rfl⟩
  case inr.inr.inr.inl =>
    obtain ⟨-, -, -, -, -, hmem, -⟩ := (issue_effect hi).frame
    exact hmem a
  all_goals rfl

/-- Settles O44: of the effects a step can have, the host's write, the engine and a reset change memory. -/
theorem memoryChangesOnlyBy : Obligations.MemoryChangesOnlyBy := by
  rintro s t a ⟨-, hinv⟩ h hne
  rcases step_inversion h with ⟨hn, rest, rfl⟩ | ⟨hn, rest, rfl⟩ | ⟨host, rest, r, rfl⟩ |
    ⟨host, rest, r, rfl⟩ | ⟨host, rest, c, b, v, hs, ht⟩ | ⟨host, rest, r, v, -, hw⟩
  · obtain ⟨hb, hd⟩ := engineStep_changes_dest (s := s.withSchedule rest) hinv hne
    exact .inr ⟨hb, hd, .inl hn⟩
  · obtain ⟨hb, hd⟩ := resetBlock_changes_dest (s := s.withSchedule rest) hinv.1 hne
    exact .inr ⟨hb, hd, .inr hn⟩
  · exact absurd rfl hne
  · exact absurd rfl hne
  · by_cases hab : a = b
    · exact .inl ⟨host, c, v, rest, hab ▸ hs⟩
    · have hnat : a.toNat ≠ b.toNat := fun e => hab (BitVec.eq_of_toNat_eq e)
      rcases ht with rfl | rfl
      · simp [Memory.read_write_other _ _ hnat] at hne
      · simp [Memory.drawAll, Memory.read_write_other _ _ hnat] at hne
  · exact absurd (writeRegister_read hw a.toNat) hne

/-! ### Races (20_memory.md R73) -/

/-- A host read of a destination byte of a running command takes the next free value (item 1). -/
theorem hostMemRead_raced {s : State} {a : Word} (host : Nat) (cached : Bool)
    (hw : s.plat.inWindow a.toNat = false) (hb : s.busy = true) (hd : s.inDest a = true) :
    hostMemRead host cached a s = s.useDraw.answerHost host (.byte s.freshByte) := by
  simp [hostMemRead, hw, hb, hd]

/-- An uncached host read outside the destination range gives the byte in memory (log entries 10 and 13). -/
theorem hostMemRead_unraced {s : State} {a : Word} (host : Nat) (hw : s.plat.inWindow a.toNat = false)
    (hd : s.inDest a = false) :
    hostMemRead host false a s = s.answerHost host (.byte (s.mem.read a.toNat)) := by
  simp [hostMemRead, hw, hd, State.stale]

/-- A host write outside the window stores its byte and opens its races. -/
theorem hostMemWrite_outside {s : State} {a : Word} (host : Nat) (cached : Bool) (v : Byte)
    (hw : s.plat.inWindow a.toNat = false) :
    hostMemWrite host cached a v s = (hostRace a (hostStore cached a v s)).answerHost host .ok := by
  simp [hostMemWrite, hw]

/-! What a host leaves in memory does not touch the running command or its races. -/

@[simp] theorem hostStore_busy (cached : Bool) (a : Word) (v : Byte) (s : State) :
    (hostStore cached a v s).busy = s.busy := by
  unfold hostStore; split <;> rfl
@[simp] theorem hostStore_src (cached : Bool) (a : Word) (v : Byte) (s : State) :
    (hostStore cached a v s).src = s.src := by
  unfold hostStore; split <;> rfl
@[simp] theorem hostStore_dst (cached : Bool) (a : Word) (v : Byte) (s : State) :
    (hostStore cached a v s).dst = s.dst := by
  unfold hostStore; split <;> rfl
@[simp] theorem hostStore_tainted (cached : Bool) (a : Word) (v : Byte) (s : State) :
    (hostStore cached a v s).tainted = s.tainted := by
  unfold hostStore; split <;> rfl
@[simp] theorem hostStore_inSource (cached : Bool) (a : Word) (v : Byte) (s : State) :
    (hostStore cached a v s).inSource = s.inSource := by
  unfold hostStore; split <;> rfl
@[simp] theorem hostStore_inDest (cached : Bool) (a : Word) (v : Byte) (s : State) :
    (hostStore cached a v s).inDest = s.inDest := by
  unfold hostStore; split <;> rfl

/-- A host write outside both ranges opens no race. -/
theorem hostRace_outside {s : State} {a : Word} (hs : s.inSource a = false) (hd : s.inDest a = false) :
    hostRace a s = s := by
  simp [hostRace, hs, hd]

/-- The marks after a host write outside the window: those its races open (items 2 and 3), and those before. -/
theorem mem_hostMemWrite_tainted {s : State} {a : Word} (host : Nat) (cached : Bool) (v : Byte)
    (hw : s.plat.inWindow a.toNat = false) (b : Word) : b ∈ (hostMemWrite host cached a v s).tainted ↔
      (s.busy = true ∧ s.inDest a = true ∧ b = a) ∨
        (s.busy = true ∧ s.inSource a = true ∧ b = s.dst + (a - s.src)) ∨ b ∈ s.tainted := by
  simp [hostMemWrite_outside host cached v hw, mem_hostRace_tainted]

/-- A host write outside the window and both ranges leaves the marks as they were. -/
theorem hostMemWrite_tainted_unraced {s : State} {a : Word} (host : Nat) (cached : Bool) (v : Byte)
    (hw : s.plat.inWindow a.toNat = false) (hs : s.inSource a = false) (hd : s.inDest a = false) :
    (hostMemWrite host cached a v s).tainted = s.tainted := by
  simp [hostMemWrite_outside host cached v hw, hostRace_outside, hs, hd]

/-- The engine forgets no race before it ends the command. -/
theorem engineStep_tainted_of_busy {s : State} (h : (engineStep s).busy = true) :
    (engineStep s).tainted = s.tainted := by
  rcases engineStep_cases s with ⟨-, e⟩ | ⟨-, e, -⟩ | ⟨-, -, e⟩ | ⟨-, -, -, e⟩ | ⟨-, -, -, -, e⟩ |
    ⟨-, -, -, -, e⟩
  · rw [e]
  · rw [e]
  · simp [e, State.endReadError, State.raise] at h
  · simp [e, State.endWriteError, State.raise] at h
  · simp [e, State.complete] at h
  · simp [e]

/-- A race stays open until the command ends. -/
theorem step_keeps_races {s t : State} (hb : s.busy = true) (ht : t.busy = true) (h : step s = .next t)
    {a : Word} (ha : a ∈ s.tainted) : a ∈ t.tainted := by
  cases step_effect h with
  | engine rest _ e =>
    subst e
    rw [engineStep_tainted_of_busy ht]
    exact ha
  | reset _ _ e => simp [e] at ht
  | access _ hm =>
    rcases hm with ⟨-, e, -⟩ | ⟨host, rest, b, v, rfl | rfl⟩
    · exact e ▸ ha
    · simp [mem_hostRace_tainted, ha]
    · simp [mem_hostRace_tainted, ha]
  | ctrl _ _ _ _ e => simpa [e] using ha
  | status _ _ _ _ e => simpa [e] using ha
  | lost _ _ _ _ _ _ _ e => simpa [e] using ha
  | stored _ _ _ hidle _ => simp [hb] at hidle
  | issued _ _ _ hidle _ _ => simp [hb] at hidle

/-- Settling the races leaves a free value in each raced byte. -/
theorem settleRaces_read {s : State} (hm : s.mem.wf = true) {a : Word} (ha : a ∈ s.tainted) :
    ∃ n, s.draws ≤ n ∧ s.settleRaces.mem.read a.toNat = Config.freeByte n := by
  obtain ⟨n, hn, -, e⟩ := Memory.read_drawAll_mem hm s.draws s.tainted ha
  exact ⟨n, hn, e⟩

/-- Every end of the engine's command, with or without an error, settles the races (log entry 11). -/
theorem engineStep_end_draws {s : State} (hm : s.mem.wf = true) (hb : s.busy = true)
    (he : (engineStep s).busy = false) {a : Word} (ha : a ∈ s.tainted) :
    ∃ n, s.draws ≤ n ∧ (engineStep s).mem.read a.toNat = Config.freeByte n := by
  rcases engineStep_cases s with ⟨h, -⟩ | ⟨-, e, -⟩ | ⟨-, -, e⟩ | ⟨-, -, -, e⟩ | ⟨-, -, -, -, e⟩ |
    ⟨-, -, -, -, e⟩
  · simp [hb] at h
  · simp [e, hb] at he
  · rw [e]
    exact settleRaces_read (s := s.logAccess .read s.readAddr) hm ha
  · rw [e]
    obtain ⟨n, hn, hr⟩ := settleRaces_read (a := a)
      (s := ((s.logAccess .read s.readAddr).logAccess .write s.writeAddr).drawBytes [s.writeAddr])
      (Memory.wf_drawAll hm _ _) ha
    exact ⟨n, Nat.le_of_succ_le hn, hr⟩
  · rw [e]
    exact settleRaces_read (s := s.moveByte) (Memory.wf_write hm _ (word_in_addressSpace _))
      (by simpa using ha)
  · simp [e, hb] at he

/-- Settles O52: reads and writes by what each leaves, the marks by `step_keeps_races`, and the draws by
`engineStep_end_draws`. -/
theorem racedBytesBecomeDraws : Obligations.RacedBytesBecomeDraws := by
  refine ⟨fun s host cached a rest hb hw hs => ⟨fun hd => ?_, ?_⟩, fun s host cached a v rest hb hw hs => ?_,
    fun s t hb ht h a ha => step_keeps_races hb ht h ha, ?_⟩
  · refine ⟨_, step_event hs, ?_⟩
    simp [hostMemRead_raced (s := s.withSchedule rest) host cached hw hb hd, State.freshByte]
  · rintro - hd rfl
    refine ⟨_, step_event hs, ?_⟩
    rw [hostMemRead_unraced (s := s.withSchedule rest) host hw hd]
    exact ⟨rfl, sameMachine_access s rest host _⟩
  · have hmarks := mem_hostMemWrite_tainted (s := s.withSchedule rest) host cached v hw
    exact ⟨_, step_event hs, fun hsrc => (hmarks _).mpr (.inr (.inl ⟨hb, hsrc, rfl⟩)),
      fun hd => (hmarks _).mpr (.inl ⟨hb, hd, rfl⟩),
      hostMemWrite_tainted_unraced (s := s.withSchedule rest) host cached v hw⟩
  · rintro s a ⟨-, -, -, hm⟩ hb he ha
    exact engineStep_end_draws hm hb he ha

end Sys2Proof.Machine
end

section
/-! PROOFS. The encoding (30_encoding.md): decoding inverts encoding, the opcode map, the invalid words, what
issuing a word does, and the words the assembler writes. -/

namespace Sys2Proof

/-! ### Decoding and encoding invert each other -/

/-- Decoding gives back the command from its fields, whatever the operands (30_encoding.md R92, R93). -/
theorem decodeFields_encodeFields (i : Instr) : decodeFields (encodeFields i) = .command i := by
  cases i <;> rfl

theorem decode_encode (i : Instr) : decode (encode i) = .command i := by
  rw [decode, encode, fieldsOf_wordOf, decodeFields_encodeFields]

/-- A word is a command's exactly when it has that command's fields. -/
theorem decode_eq_command_iff {w : Word} {i : Instr} : decode w = .command i ↔ encodeFields i = fieldsOf w := by
  constructor
  · exact decodeFields_command
  · intro h
    rw [decode, ← h, decodeFields_encodeFields]

/-- Settles O1: the fields of a command's word are the command's, and decoding inverts them. -/
theorem decodeEncodeRoundTrip : Obligations.DecodeEncodeRoundTrip := decode_encode

/-- Settles O2: the word is the word of its fields, which are the command's. -/
theorem decodedWordIsItsEncoding : Obligations.DecodedWordIsItsEncoding := by
  intro w i h
  rw [encode, decode_eq_command_iff.mp h, wordOf_fieldsOf]

/-! ### The valid words (30_encoding.md R92, R94) -/

/-- The opcodes that are not reserved. -/
theorem opcode_cases : ∀ {op : BitVec 4}, op.toNat < 7 →
    op = 0x0#4 ∨ op = 0x1#4 ∨ op = 0x2#4 ∨ op = 0x3#4 ∨ op = 0x4#4 ∨ op = 0x5#4 ∨ op = 0x6#4 := by
  decide

/-- The fields of every command are valid. -/
theorem encodeFields_wellFormed (i : Instr) : (encodeFields i).wellFormed = true := by
  cases i <;> simp [encodeFields, CmdFields.wellFormed, CmdFields.unusedZero]

/-- Valid fields are those of a command. -/
theorem exists_encodeFields_of_wellFormed {f : CmdFields} (h : f.wellFormed = true) :
    ∃ i, encodeFields i = f := by
  obtain ⟨op, z1, f1, f2, z2⟩ := f
  simp only [CmdFields.wellFormed, Bool.and_eq_true, decide_eq_true_eq] at h
  obtain ⟨⟨⟨hop, rfl⟩, rfl⟩, hunused⟩ := h
  rcases opcode_cases hop with rfl | rfl | rfl | rfl | rfl | rfl | rfl <;>
    simp [CmdFields.unusedZero] at hunused
  · exact ⟨.nop, by simp [encodeFields, hunused]⟩
  · exact ⟨.cfg f1 f2, rfl⟩
  · exact ⟨.encb f1, by simp [encodeFields, hunused]⟩
  · exact ⟨.decb f1, by simp [encodeFields, hunused]⟩
  · exact ⟨.encbuf, by simp [encodeFields, hunused]⟩
  · exact ⟨.decbuf, by simp [encodeFields, hunused]⟩
  · exact ⟨.clr, by simp [encodeFields, hunused]⟩

/-- A word decodes to a command exactly when it is valid. -/
theorem exists_decode_iff_wellFormed (w : Word) :
    (∃ i, decode w = .command i) ↔ (fieldsOf w).wellFormed = true := by
  simp only [decode_eq_command_iff]
  constructor
  · rintro ⟨i, hi⟩
    exact hi ▸ encodeFields_wellFormed i
  · exact exists_encodeFields_of_wellFormed

theorem decode_eq_invalid_iff (w : Word) : decode w = .invalid ↔ (fieldsOf w).wellFormed = false := by
  rw [← Bool.not_eq_true, ← exists_decode_iff_wellFormed]
  cases decode w <;> simp

/-! ### The opcode map (30_encoding.md R93) -/

/-- A word matches under a mask exactly when each of its fields does. -/
theorem and_wordOf_eq_iff (w : Word) (m g : CmdFields) : w &&& wordOf m = wordOf g ↔
    (fieldsOf w).op &&& m.op = g.op ∧ (fieldsOf w).z1 &&& m.z1 = g.z1 ∧ (fieldsOf w).f1 &&& m.f1 = g.f1 ∧
      (fieldsOf w).f2 &&& m.f2 = g.f2 ∧ (fieldsOf w).z2 &&& m.z2 = g.z2 := by
  rw [← CmdFields.mk.injEq]
  conv_lhs => rw [← wordOf_fieldsOf w, wordOf_and]
  exact ⟨wordOf_injective, congrArg wordOf⟩

/-- The mask of a row of R93, field by field: the operand fields are free, every other bit is fixed. -/
def rowMask : Instr → CmdFields
  | .cfg _ _ => ⟨0xF#4, 0xF#4, 0#8, 0#8, 0xFF#8⟩
  | .encb _ | .decb _ => ⟨0xF#4, 0xF#4, 0#8, 0xFF#8, 0xFF#8⟩
  | .nop | .encbuf | .decbuf | .clr => ⟨0xF#4, 0xF#4, 0xFF#8, 0xFF#8, 0xFF#8⟩

/-- The masks and matches of the opcode map are those of `rowMask` and the row's opcode. -/
theorem rowMatches_iff_and_rowMask (i : Instr) (w : Word) : rowMatches i w = true ↔
    w &&& wordOf (rowMask i) = wordOf ⟨(encodeFields i).op, 0#4, 0#8, 0#8, 0#8⟩ := by
  cases i <;> simp only [rowMatches, rowMask, encodeFields, decide_eq_true_eq] <;> rfl

theorem rowMask_fixed (i : Instr) : (rowMask i).op = BitVec.allOnes 4 ∧ (rowMask i).z1 = BitVec.allOnes 4 ∧
    (rowMask i).z2 = BitVec.allOnes 8 := by
  cases i <;> exact ⟨rfl, rfl, rfl⟩

/-- The fields an opcode leaves unused are the operand fields under the mask of its row. -/
theorem unusedZero_iff_rowMask {f : CmdFields} {i : Instr} (h : f.op = (encodeFields i).op) :
    f.unusedZero = true ↔ f.f1 &&& (rowMask i).f1 = 0#8 ∧ f.f2 &&& (rowMask i).f2 = 0#8 := by
  have hfull (x : Byte) : x &&& 0xFF#8 = x := BitVec.and_allOnes
  cases i <;> simp [CmdFields.unusedZero, h, encodeFields, rowMask, hfull]

theorem encodeFields_op_lt (i : Instr) : (encodeFields i).op.toNat < 7 := by
  cases i <;> simp [encodeFields]

/-- A row matches exactly the valid words with its opcode. -/
theorem rowMatches_iff (i : Instr) (w : Word) : rowMatches i w = true ↔
    (fieldsOf w).wellFormed = true ∧ (fieldsOf w).op = (encodeFields i).op := by
  obtain ⟨hop, hz1, hz2⟩ := rowMask_fixed i
  rw [rowMatches_iff_and_rowMask, and_wordOf_eq_iff, hop, hz1, hz2, and_comm (b := _ = (encodeFields i).op)]
  simp only [BitVec.and_allOnes]
  refine and_congr_right fun h => ?_
  simp only [CmdFields.wellFormed, h, encodeFields_op_lt, unusedZero_iff_rowMask h, decide_true,
    Bool.true_and, Bool.and_eq_true, decide_eq_true_eq]
  tauto

/-- The command of a word has the word's opcode. -/
theorem exists_decode_with_op_iff (w : Word) (op : BitVec 4) :
    (∃ j, decode w = .command j ∧ (encodeFields j).op = op) ↔
      (fieldsOf w).wellFormed = true ∧ (fieldsOf w).op = op := by
  rw [← exists_decode_iff_wellFormed, ← exists_and_right]
  refine exists_congr fun j => and_congr_right fun hj => ?_
  rw [decode_eq_command_iff.mp hj]

/-- Settles O3: a row's words are the valid words of its opcode, and so are the words of its command. -/
theorem opcodeMapDecidesCommand : Obligations.OpcodeMapDecidesCommand := by
  refine ⟨fun w i => ?_, fun w i j hi hj => ?_, fun w a b h => ?_, fun w x h => ?_, fun w y h => ?_⟩
  · rw [rowMatches_iff, exists_decode_with_op_iff]
  · obtain ⟨-, hop⟩ := (rowMatches_iff i w).mp hi
    obtain ⟨-, hop'⟩ := (rowMatches_iff j w).mp hj
    exact hop.symm.trans hop'
  · have hf := decode_eq_command_iff.mp h
    exact ⟨congrArg CmdFields.f1 hf, congrArg CmdFields.f2 hf⟩
  · exact congrArg CmdFields.f1 (decode_eq_command_iff.mp h)
  · exact congrArg CmdFields.f1 (decode_eq_command_iff.mp h)

/-! ### The invalid words (30_encoding.md R94) -/

/-- Fields are invalid by a reserved opcode, a reserved field, or an unused field that is not 0. -/
theorem wellFormed_eq_false_iff (f : CmdFields) : f.wellFormed = false ↔
    7 ≤ f.op.toNat ∨ f.z1 ≠ 0#4 ∨ f.z2 ≠ 0#8 ∨
      (f.op.toNat ∈ [0, 4, 5, 6] ∧ (f.f1 ≠ 0#8 ∨ f.f2 ≠ 0#8)) ∨ (f.op.toNat ∈ [2, 3] ∧ f.f2 ≠ 0#8) := by
  by_cases hop : f.op.toNat < 7
  · rcases opcode_cases hop with h | h | h | h | h | h | h <;>
      simp [CmdFields.wellFormed, CmdFields.unusedZero, h, imp_iff_not_or, or_assoc]
  · simp [CmdFields.wellFormed, hop, Nat.le_of_not_lt hop]

/-- Settles O5: the listed words decoded. -/
theorem specWordsDecode : Obligations.SpecWordsDecode := by
  unfold Obligations.SpecWordsDecode
  decide

end Sys2Proof

namespace Sys2Proof.Machine

/-! ### Issuing a word (30_encoding.md R94 to R96) -/

/-- An invalid word is accepted and only reports INVALID_COMMAND. -/
theorem issue_invalid {w : Word} (s : State) (h : decode w = .invalid) :
    issue w s = .next (s.accept.raise .invalidCommand) := by
  rw [issue, h]

/-- Settles O4: the invalid words by their fields, and what `issue` reports for one. -/
theorem invalidWordsReportInvalidCommand : Obligations.InvalidWordsReportInvalidCommand := by
  refine ⟨fun w => (decode_eq_invalid_iff w).trans (wellFormed_eq_false_iff (fieldsOf w)), fun w s h => ?_⟩
  have hi := issue_invalid s h
  exact ⟨_, hi, ⟨rfl, rfl, rfl⟩, rfl, rfl, rfl, rfl, (issue_effect hi).frame⟩

/-- Settles O25: what an issued word leaves has DONE or a running engine, and only a buffer command starts it. -/
theorem commandsEndOrStartInTheWrite : Obligations.CommandsEndOrStartInTheWrite := by
  rintro i s t ⟨hb, w, hw, hd⟩ h
  obtain ⟨host, rest, hi⟩ := issueEffect_of_writesNext h hb hw
  have hdone := hi.done_eq
  cases ht : t.busy with
  | false => simp [hdone, ht]
  | true =>
    obtain ⟨hbuf, -, herr, hcount⟩ := hi.started_of_busy ht
    simp only [hd, Decoded.command.injEq] at hbuf
    refine ⟨fun he hdec => absurd hbuf (by simp [he, hdec]), fun _ => .inr ?_⟩
    simp [hdone, ht, herr, hcount]

/-- Settles O26: the write to CMD issues the word, which decodes to the command. -/
theorem stepRunsTheDecodedCommand : Obligations.StepRunsTheDecodedCommand := by
  intro s host w rest i hs hb hd
  rw [step_regWrite (r := .cmd) hs]
  simp only [writeRegister, State.answerHost_busy, State.withSchedule_busy, hb, issue, hd]
  rfl

theorem decodeTableWord_encode (i : Instr) : decodeTableWord 32 (encode i).toNat = some i := by
  simp [decodeTableWord, decode_encode]

/-- The placed word is the next step's CMD write. -/
theorem withFetchWord_schedule (s : State) (w : Word) :
    (s.withFetchWord 32 w.toNat).schedule = .regWrite 0 .w32 0x0C#6 w :: s.schedule := by
  simp [State.withFetchWord, State.placeCommand]

/-- Settles O27: the step of O26, for the write that was placed. -/
theorem placedCommandRunsNext : Obligations.PlacedCommandRunsNext := fun s i =>
  ⟨decodeTableWord_encode i,
    stepRunsTheDecodedCommand _ 0 _ s.schedule i (withFetchWord_schedule s _) rfl (decode_encode i)⟩

/-! ### The words of the assembler (30_encoding.md R98, R99) -/

/-- An integer narrowed to a byte is its residue. -/
theorem toNat_ofInt_byte (a : Int) : ((BitVec.ofInt 8 a).toNat : Int) = a % 256 := by
  rw [BitVec.toNat_ofInt, Int.toNat_of_nonneg (by omega)]
  rfl

/-- Coprime to the modulus is odd (40_configuration.md R111). -/
theorem gcd_modulus_eq_one_iff (a : Int) : Int.gcd a 256 = 1 ↔ (a % 256) % 2 = 1 := by
  have hodd : Nat.Coprime a.natAbs (2 ^ 8) ↔ Odd a.natAbs := by
    rw [Nat.coprime_pow_right_iff (by decide), Nat.coprime_two_right]
  rw [Nat.odd_iff] at hodd
  refine hodd.trans ?_
  omega

/-- `E` under a configuration from integers is the integer construction (41_byte_transform.md R140). -/
theorem encryptByte_construct_toNat {a b : Int} {a' b' : Byte} (ha : (a'.toNat : Int) = a % 256)
    (hb : (b'.toNat : Int) = b % 256) (x : Byte) :
    (((Cfg.construct a' b').encryptByte x).toNat : Int) = (a * x.toNat + b) % 256 := by
  simp [Cfg.construct, Cfg.encryptByte, ha, hb, Int.add_emod, Int.mul_emod]

/-- Settles O6: CFGI narrows each integer to its residue. -/
theorem cfgiGivesTheIntegerConstruction : Obligations.CfgiGivesTheIntegerConstruction := by
  intro a b host polls
  have hres (v : Int) : ((BitVec.ofInt 8 (v % 256)).toNat : Int) = v % 256 :=
    (toNat_ofInt_byte _).trans (Int.emod_emod v 256)
  refine ⟨_, _, rfl, hres a, hres b, ?_, encryptByte_construct_toNat (hres a) (hres b)⟩
  rw [validMultiplier_iff, gcd_modulus_eq_one_iff]
  have ha := hres a
  omega

theorem byteOperand_iff (v : Int) : byteOperand v = true ↔ 0 ≤ v ∧ v ≤ 255 := by
  simp [byteOperand]

theorem toNat_ofInt_operand {v : Int} (h0 : 0 ≤ v) (h255 : v ≤ 255) :
    ((BitVec.ofInt 8 v).toNat : Int) = v := by
  rw [toNat_ofInt_byte]
  omega

/-! The words with operands, as numbers (30_encoding.md R98). -/

theorem encode_cfg_toNat (a b : Byte) :
    (encode (.cfg a b)).toNat = b.toNat * 65536 + a.toNat * 256 + 1 := by
  simp [encode, wordOf_toNat, encodeFields]

theorem encode_encb_toNat (x : Byte) : (encode (.encb x)).toNat = x.toNat * 256 + 2 := by
  simp [encode, wordOf_toNat, encodeFields]

theorem encode_decb_toNat (y : Byte) : (encode (.decb y)).toNat = y.toNat * 256 + 3 := by
  simp [encode, wordOf_toNat, encodeFields]

/-- A CFG line is accepted where both operands are bytes. -/
theorem cfg_wellFormed_iff (a b : Int) :
    (Asm.cfg a b).wellFormed = true ↔ 0 ≤ a ∧ a ≤ 255 ∧ 0 ≤ b ∧ b ≤ 255 := by
  simp only [Asm.wellFormed, Bool.and_eq_true, byteOperand_iff, and_assoc]

/-- Settles O7: the operand check is the range, and the word has each field at its weight. -/
theorem assemblerChecksOperands : Obligations.AssemblerChecksOperands := by
  refine ⟨fun host polls a b => ⟨fun h => ?_, fun h => if_neg (mt (cfg_wellFormed_iff a b).mp h)⟩,
    fun host polls x => ⟨fun h => ?_, fun h => ?_⟩⟩
  · refine ⟨_, if_pos ((cfg_wellFormed_iff a b).mpr h), ?_⟩
    obtain ⟨ha0, ha255, hb0, hb255⟩ := h
    have ha := toNat_ofInt_operand ha0 ha255
    have hb := toNat_ofInt_operand hb0 hb255
    rw [encode_cfg_toNat]
    omega
  · have hline := (byteOperand_iff x).mpr h
    have hx := toNat_ofInt_operand h.1 h.2
    refine ⟨_, _, if_pos hline, if_pos hline, ?_, ?_⟩
    · rw [encode_encb_toNat]
      omega
    · rw [encode_decb_toNat]
      omega
  · have hline := mt (byteOperand_iff x).mp h
    exact ⟨if_neg hline, if_neg hline⟩

end Sys2Proof.Machine
end

section
/-! PROOFS. The configuration (40_configuration.md): which multipliers are valid (R111), their inverses (R112,
R113), and the commands NOP, CFG and CLR (R110, R114, R115). -/

namespace Sys2Proof.Machine

/-! ### The multiplier and its inverse (40_configuration.md R111 to R113) -/

/-- Bit 0 is the parity. -/
theorem validMultiplier_iff_getElem_zero (a : Byte) : validMultiplier a = true ↔ a[0] = true := by
  rw [validMultiplier_iff, BitVec.getElem_eq_testBit_toNat, Nat.testBit_zero, decide_eq_true_eq]

theorem validMultiplier_iff_gcd (a : Byte) : validMultiplier a = true ↔ Int.gcd a.toNat 256 = 1 := by
  rw [validMultiplier_iff, gcd_modulus_eq_one_iff]
  omega

/-- Settles O8: odd is coprime to a power of 2, for a byte and for an integer. -/
theorem multiplierValidIffCoprime : Obligations.MultiplierValidIffCoprime :=
  ⟨fun a => ⟨validMultiplier_iff_gcd a, validMultiplier_iff_getElem_zero a⟩, gcd_modulus_eq_one_iff⟩

/-- A product of residues is 1 mod 256 exactly when the product of the bytes is 1. -/
theorem mul_mod_eq_one_iff (a v : Byte) : (a.toNat * v.toNat) % 256 = 1 ↔ a * v = 1#8 := by
  rw [← BitVec.toNat_inj, BitVec.toNat_mul]
  rfl

/-- The inverse is the one residue whose product with a valid multiplier is 1: bytes form a commutative ring. -/
theorem mul_mod_eq_one_iff_eq_inverse {a : Byte} (ha : validMultiplier a = true) (v : Byte) :
    (a.toNat * v.toNat) % 256 = 1 ↔ v = inverse a := by
  have hinv := mul_inverse_mod a ((validMultiplier_iff a).mp ha)
  constructor
  · intro hv
    rw [mul_mod_eq_one_iff] at hv hinv
    exact left_inv_eq_right_inv ((mul_comm v a).trans hv) hinv
  · rintro rfl
    exact hinv

/-- A remainder is below half of what was divided. -/
theorem two_mul_emod_lt {r0 r1 : Int} (hpos : 0 < r1) (hlt : r1 < r0) : 2 * (r0 % r1) < r0 := by
  have hsum := Int.ediv_mul_add_emod r0 r1
  have hrem : r0 % r1 < r1 := Int.emod_lt_of_pos r0 hpos
  have hquot : 1 ≤ r0 / r1 := (Int.le_ediv_iff_mul_le hpos).mpr (by omega)
  have hle : r1 ≤ r0 / r1 * r1 := le_mul_of_one_le_left hpos.le hquot
  omega

/-- The loop of R112 keeps `s * a` congruent to its remainder `r`, so it ends with a multiple of `a` congruent to
the greatest common divisor. Each round more than halves `r0 * r1`, so `n` rounds are enough below `2 ^ n`. -/
theorem euclidLoop_mul_modEq_gcd (a : Int) : ∀ (n : Nat) (r0 r1 s0 s1 : Int), 0 ≤ r1 → r1 < r0 →
    r0 * r1 < 2 ^ n → s0 * a ≡ r0 [ZMOD 256] → s1 * a ≡ r1 [ZMOD 256] →
    euclidLoop n r0 r1 s0 s1 * a ≡ Int.gcd r0 r1 [ZMOD 256] := by
  intro n
  induction n with
  | zero =>
    intro r0 r1 s0 s1 h0 hlt hn hs0 hs1
    obtain rfl : r1 = 0 := by nlinarith
    simpa [euclidLoop, abs_of_pos hlt] using hs0
  | succ n ih =>
    intro r0 r1 s0 s1 h0 hlt hn hs0 hs1
    by_cases hr : r1 = 0
    · subst hr
      simpa [euclidLoop, abs_of_pos hlt] using hs0
    · have hmod : r0 - r0 / r1 * r1 = r0 % r1 := by rw [Int.emod_def, mul_comm]
      have hpos : 0 < r1 := by omega
      have hfall : r1 * (r0 % r1) < 2 ^ n := by
        have hhalf := mul_lt_mul_of_pos_left (two_mul_emod_lt hpos hlt) hpos
        rw [pow_succ] at hn
        linarith
      have hs : (s0 - r0 / r1 * s1) * a ≡ r0 % r1 [ZMOD 256] := by
        rw [← hmod, sub_mul, mul_assoc]
        exact hs0.sub (hs1.mul_left _)
      rw [euclidLoop, if_neg hr, hmod, ← Int.gcd_emod, Int.gcd_comm]
      exact ih _ _ _ _ (Int.emod_nonneg r0 hr) (Int.emod_lt_of_pos r0 hpos) hfall hs1 hs

/-- The extended Euclidean algorithm gives the inverse of a valid multiplier (40_configuration.md R112). -/
theorem euclidInverse_eq_inverse {a : Byte} (ha : validMultiplier a = true) :
    euclidInverse a = inverse a := by
  have hgcd : Int.gcd 256 a.toNat = 1 := Int.gcd_comm _ _ ▸ (validMultiplier_iff_gcd a).mp ha
  have hloop : euclidLoop 16 256 a.toNat 0 1 * (a.toNat : Int) ≡ 1 [ZMOD 256] := by
    simpa [hgcd] using euclidLoop_mul_modEq_gcd a.toNat 16 256 a.toNat 0 1 (by omega) (by omega) (by omega)
      (by simp [Int.ModEq]) (by rw [one_mul])
  rw [← mul_mod_eq_one_iff_eq_inverse ha]
  zify
  rw [euclidInverse, toNat_ofInt_byte, Int.emod_emod, mul_comm]
  exact ((Int.mod_modEq _ _).mul_right _).trans hloop

/-- Only four multipliers are their own inverse (40_configuration.md R113). -/
theorem inverse_eq_self_iff : ∀ a : Byte, validMultiplier a = true →
    (inverse a = a ↔ a = 1#8 ∨ a = 127#8 ∨ a = 129#8 ∨ a = 255#8) := by
  decide

/-- Settles O9: the inverse is unique in a commutative ring, Euclid's loop ends with an inverse, and the self-inverse
residues are enumerated. -/
theorem inverseIsTheUniqueResidue : Obligations.InverseIsTheUniqueResidue :=
  ⟨by decide, fun a ha =>
    ⟨mul_mod_eq_one_iff_eq_inverse ha, euclidInverse_eq_inverse ha, inverse_eq_self_iff a ha⟩⟩

/-! ### The transforms in 8-bit arithmetic (41_byte_transform.md R141, R144) -/

theorem Cfg.encryptByte_eq (c : Cfg) (x : Byte) : c.encryptByte x = c.a * x + c.b := by
  apply BitVec.eq_of_toNat_eq
  simp [Cfg.encryptByte]

theorem Cfg.decryptByte_eq (c : Cfg) (y : Byte) : c.decryptByte y = c.ainv * (y - c.b) := by
  have hsub : ((y - c.b).toNat : Int) = ((y.toNat : Int) - c.b.toNat + 256) % 256 := by
    rw [BitVec.toNat_sub]
    omega
  apply BitVec.eq_of_toNat_eq
  zify
  rw [Cfg.decryptByte, toNat_ofInt_byte, BitVec.toNat_mul]
  push_cast
  rw [hsub]
  simp [Int.mul_emod]

/-! ### What a command's frame allows (60_exceptions.md R202) -/

theorem CommandFrame.refl (s : State) : CommandFrame s s := by
  simp [CommandFrame]

theorem CommandFrame.endCommand {s t : State} (h : CommandFrame s t) (e : ErrCode) :
    CommandFrame s (t.endCommand e) := h

theorem CommandFrame.setCfg {s t : State} (h : CommandFrame s t) (c : Cfg) : CommandFrame s (t.setCfg c) := h

theorem CommandFrame.discard {s t : State} (h : CommandFrame s t) : CommandFrame s t.discard := h

theorem State.endCommand_endedWith (s : State) (e : ErrCode) : (s.endCommand e).endedWith e :=
  ⟨rfl, rfl, rfl⟩

/-! ### NOP, CFG and CLR (40_configuration.md R110, R114, R115) -/

/-- A command has one word. -/
theorem decode_eq_command_iff_eq_encode (w : Word) (i : Instr) : decode w = .command i ↔ w = encode i :=
  ⟨fun h => (decodedWordIsItsEncoding w i h).symm, fun h => h ▸ decode_encode i⟩

/-- A command's word written while BUSY is 1 is lost (10_state.md R39). -/
theorem step_of_busy_cmd {s : State} {w : Word} (hb : s.busy = true) (h : s.writesNext .cmd w) :
    ∃ t, step s = .next t ∧ t.ovr = true ∧ SameMachine { s with ovr := true } t := by
  obtain ⟨host, rest, hs⟩ := h
  exact ((busyWritesAreLost s host w rest).1 hb).1 .cmd (.inl rfl) hs

theorem exec_nop (s : State) : exec .nop s = .next (s.endCommand .none) := rfl

theorem exec_cfg_odd {a : Byte} (ha : a.toNat % 2 = 1) (b : Byte) (s : State) :
    exec (.cfg a b) s = .next ((s.setCfg (Cfg.construct a b)).endCommand .none) :=
  if_pos ((validMultiplier_iff a).mpr ha)

theorem exec_cfg_even {a : Byte} (ha : a.toNat % 2 = 0) (b : Byte) (s : State) :
    exec (.cfg a b) s = .next (s.discard.endCommand .invalidParameters) :=
  if_neg (mt (validMultiplier_iff a).mp (by omega))

theorem exec_clr (s : State) : exec .clr s = .next (s.discard.endCommand .none) := rfl

/-- Settles O16: the word is NOP's, and ending a command is all that NOP does. -/
theorem nopEndsWithSuccess : Obligations.NopEndsWithSuccess :=
  ⟨fun w => decode_eq_command_iff_eq_encode w .nop, fun s =>
    ⟨_, exec_nop s, s.endCommand_endedWith _, by simp [State.irq], rfl, rfl, rfl, rfl,
      (CommandFrame.refl s).endCommand _⟩⟩

/-- Settles O17: the word is CFG's, the multiplier's parity decides which of the two ends comes, and the two keys
multiply by 1 and by -1. -/
theorem cfgConstructsOrDiscards : Obligations.CfgConstructsOrDiscards := by
  intro a b
  refine ⟨fun w => ?_, fun s => ⟨fun ha => ?_, fun ha => ?_⟩, fun s w _ hb hw => step_of_busy_cmd hb hw, ?_, ?_⟩
  · rw [decode_eq_command_iff_eq_encode, ← BitVec.toNat_inj, encode_cfg_toNat]
  · exact ⟨_, exec_cfg_odd ha b s, State.endCommand_endedWith _ _, rfl, rfl, rfl, mul_inverse_mod a ha, rfl, rfl,
      rfl, rfl, ((CommandFrame.refl s).setCfg _).endCommand _⟩
  · exact ⟨_, exec_cfg_even ha b s, State.endCommand_endedWith _ _, rfl, rfl, rfl, rfl, rfl, rfl, rfl,
      (CommandFrame.refl s).discard.endCommand _⟩
  · rintro rfl rfl x
    have hinv : inverse 1#8 = 1#8 := by decide
    simp [Cfg.encryptByte_eq, Cfg.decryptByte_eq, Cfg.construct, hinv]
  · rintro rfl rfl x
    have h := encryptByte_construct_toNat (a := -1) (b := 0) (a' := 255#8) (b' := 0#8) rfl rfl x
    omega

/-- Settles O18: the word is CLR's, and CLR discards the configuration and ends. -/
theorem clrDiscards : Obligations.ClrDiscards :=
  ⟨fun w => decode_eq_command_iff_eq_encode w .clr, fun s =>
    ⟨_, exec_clr s, State.endCommand_endedWith _ _, rfl, rfl, rfl, rfl, rfl, rfl, rfl,
      (CommandFrame.refl s).discard.endCommand _⟩, fun _ hb hw => step_of_busy_cmd hb hw⟩

end Sys2Proof.Machine
end

section
/-! PROOFS. The byte transforms (41_byte_transform.md): their exact and 8-bit forms (R140 to R144), the round trip
(R145, R146), and the commands ENCB and DECB (R147, R148). -/

namespace Sys2Proof.Machine

/-! ### The exact values (41_byte_transform.md R140, R143) -/

theorem Cfg.encryptByte_toNat (c : Cfg) (x : Byte) :
    (c.encryptByte x).toNat = (c.a.toNat * x.toNat + c.b.toNat) % 256 := by
  simp [Cfg.encryptByte]

theorem Cfg.decryptByte_toNat (c : Cfg) (y : Byte) : ((c.decryptByte y).toNat : Int) =
    ((c.ainv.toNat : Int) * ((y.toNat : Int) - c.b.toNat + 256)) % 256 :=
  (toNat_ofInt_byte _).trans (Int.emod_emod _ 256)

theorem toNat_mul_toNat_le (a x : Byte) : a.toNat * x.toNat ≤ 65025 :=
  Nat.mul_le_mul (Nat.le_of_lt_succ a.isLt) (Nat.le_of_lt_succ x.isLt)

/-- Settles O10: two bytes bound the product, and the residue is the wrapped sum. -/
theorem encryptByteExactAndWrapped : Obligations.EncryptByteExactAndWrapped := by
  intro c x
  have hmul := toNat_mul_toNat_le c.a x
  exact ⟨hmul, by omega, c.encryptByte_toNat x, c.encryptByte_eq x⟩

/-- Settles O11: two bytes bound the difference, and the residue is the wrapped product. -/
theorem decryptByteExactAndWrapped : Obligations.DecryptByteExactAndWrapped := fun c y =>
  ⟨by omega, by omega, c.decryptByte_toNat y, c.decryptByte_eq y⟩

/-! ### The round trip (41_byte_transform.md R145, R146) -/

/-- A latched inverse is the multiplier's (10_state.md R42). -/
theorem Cfg.a_mul_ainv {c : Cfg} (hv : c.valid = true) (hc : c.Consistent) : c.a * c.ainv = 1#8 :=
  (mul_mod_eq_one_iff _ _).mp (hc.1 hv).2

theorem Cfg.decryptByte_encryptByte {c : Cfg} (hv : c.valid = true) (hc : c.Consistent) (x : Byte) :
    c.decryptByte (c.encryptByte x) = x := by
  calc c.decryptByte (c.encryptByte x)
    _ = c.ainv * (c.a * x + c.b - c.b) := by rw [c.decryptByte_eq, c.encryptByte_eq]
    _ = c.a * c.ainv * x := by ring
    _ = x := by rw [Cfg.a_mul_ainv hv hc, BitVec.one_mul]

theorem Cfg.encryptByte_decryptByte {c : Cfg} (hv : c.valid = true) (hc : c.Consistent) (y : Byte) :
    c.encryptByte (c.decryptByte y) = y := by
  calc c.encryptByte (c.decryptByte y)
    _ = c.a * (c.ainv * (y - c.b)) + c.b := by rw [c.encryptByte_eq, c.decryptByte_eq]
    _ = c.a * c.ainv * (y - c.b) + c.b := by rw [BitVec.mul_assoc]
    _ = y := by rw [Cfg.a_mul_ainv hv hc, BitVec.one_mul, BitVec.sub_add_cancel]

/-- Settles O12: in 8-bit arithmetic the offset cancels and the multiplier meets its inverse. -/
theorem byteRoundTrip : Obligations.ByteRoundTrip := fun _ hv hc =>
  ⟨Cfg.decryptByte_encryptByte hv hc, Cfg.encryptByte_decryptByte hv hc⟩

/-- Settles O13: the two round trips make each transform the other's inverse, and CFG with an even multiplier
discards the configuration. -/
theorem transformsAreBijections : Obligations.TransformsAreBijections := by
  refine ⟨fun c hv hc => ?_, fun a b s ha => ⟨_, exec_cfg_even ha b s, rfl⟩⟩
  have hde : Function.LeftInverse c.decryptByte c.encryptByte := Cfg.decryptByte_encryptByte hv hc
  have hed : Function.LeftInverse c.encryptByte c.decryptByte := Cfg.encryptByte_decryptByte hv hc
  exact ⟨⟨hde.injective, hed.surjective⟩, ⟨hed.injective, hde.surjective⟩, hde, hed⟩

/-! ### ENCB and DECB (41_byte_transform.md R147, R148) -/

theorem CommandFrame.setResult {s t : State} (h : CommandFrame s t) (v : Byte) :
    CommandFrame s (t.setResult v) := h

/-- With a valid configuration a byte command leaves the transformed byte in RESULT. -/
theorem byteCommand_configured (op : EngOp) (x : Byte) {s : State} (hv : s.cfg.valid = true) :
    ∃ t, byteCommand op x s = .next t ∧ t.endedWith .none ∧ t.result = s.cfg.transform op x ∧
      t.cfg = s.cfg ∧ t.count = s.count ∧ t.engOp = s.engOp ∧ CommandFrame s t :=
  ⟨_, if_pos hv, State.endCommand_endedWith _ _, rfl, rfl, rfl, rfl,
    ((CommandFrame.refl s).setResult _).endCommand _⟩

/-- Without a valid configuration a byte command only reports NOT_CONFIGURED. -/
theorem byteCommand_unconfigured (op : EngOp) (x : Byte) {s : State} (hv : s.cfg.valid = false) :
    ∃ t, byteCommand op x s = .next t ∧ t.endedWith .notConfigured ∧ t.result = s.result ∧
      t.cfg = s.cfg ∧ t.count = s.count ∧ t.engOp = s.engOp ∧ CommandFrame s t :=
  ⟨_, if_neg (by simp [hv]), State.endCommand_endedWith _ _, rfl, rfl, rfl, rfl,
    (CommandFrame.refl s).endCommand _⟩

/-- Settles O19: the word is ENCB's, and the byte command in the encrypting direction leaves `E(x)`. -/
theorem encbLeavesEncryptedByte : Obligations.EncbLeavesEncryptedByte := by
  intro x s
  refine ⟨fun w => ?_, fun hv => ?_, byteCommand_unconfigured .enc x⟩
  · rw [decode_eq_command_iff_eq_encode, ← BitVec.toNat_inj, encode_encb_toNat]
  · obtain ⟨t, he, hend, hres, hrest⟩ := byteCommand_configured .enc x hv
    exact ⟨t, he, hend, hres ▸ s.cfg.encryptByte_toNat x, hrest⟩

/-- Settles O20: the word is DECB's, and the byte command in the decrypting direction leaves `D(y)`. -/
theorem decbLeavesDecryptedByte : Obligations.DecbLeavesDecryptedByte := by
  intro y s
  refine ⟨fun w => ?_, fun hv => ?_, byteCommand_unconfigured .dec y⟩
  · rw [decode_eq_command_iff_eq_encode, ← BitVec.toNat_inj, encode_decb_toNat]
  · obtain ⟨t, he, hend, hres, hrest⟩ := byteCommand_configured .dec y hv
    exact ⟨t, he, hend, hres ▸ s.cfg.decryptByte_toNat y, hrest⟩

end Sys2Proof.Machine
end

section
/-! PROOFS. The buffer functions and the buffer commands' CMD write (42_buffer_transform.md): the functions work
byte by byte and invert each other (R170, R171), and ENCBUF and DECBUF check, complete or start the engine
(R172 to R174). -/

namespace Sys2Proof.Machine

/-! ### The buffer functions (42_buffer_transform.md R170, R171) -/

/-- Settles O14: each buffer function maps its byte function over the list. -/
theorem bufferFunctionsAreBytewise : Obligations.BufferFunctionsAreBytewise := fun _ _ =>
  ⟨List.length_map _, List.length_map _, fun _ => ⟨List.getElem?_map, List.getElem?_map⟩⟩

/-- Settles O15: maps of inverse functions are inverse (R145). -/
theorem bufferRoundTrip : Obligations.BufferRoundTrip := by
  intro c buffer hv hc
  have hde : Function.LeftInverse c.decryptByte c.encryptByte := Cfg.decryptByte_encryptByte hv hc
  have hed : Function.LeftInverse c.encryptByte c.decryptByte := Cfg.encryptByte_decryptByte hv hc
  exact ⟨hde.list_map buffer, hed.list_map buffer⟩

/-! ### The buffer commands (42_buffer_transform.md R172 to R177) -/

/-- A buffer command starts a buffer in its direction (R176, R177). -/
theorem exec_buffer {i : Instr} {op : EngOp} (h : (i = .encbuf ∧ op = .enc) ∨ (i = .decbuf ∧ op = .dec)) :
    exec i = startBuffer op := by
  rcases h with ⟨rfl, rfl⟩ | ⟨rfl, rfl⟩ <;> rfl

theorem startBuffer_unconfigured (op : EngOp) {s : State} (hv : s.cfg.valid = false) :
    startBuffer op s = .next (s.endCommand .notConfigured) := by
  simp [startBuffer, hv]

theorem startBuffer_badRange (op : EngOp) {s : State} (hv : s.cfg.valid = true) (hr : s.rangeOk = false) :
    startBuffer op s = .next (s.endCommand .invalidRange) := by
  simp [startBuffer, hv, hr]

theorem startBuffer_empty (op : EngOp) {s : State} (hv : s.cfg.valid = true) (hr : s.rangeOk = true)
    (hl : s.len = 0#32) : startBuffer op s = .next ((s.setCount 0#32).endCommand .none) := by
  simp [startBuffer, hv, hr, hl]

theorem startBuffer_starts (op : EngOp) {s : State} (hv : s.cfg.valid = true) (hr : s.rangeOk = true)
    (hl : s.len ≠ 0#32) (hw : s.windowClear = true) :
    startBuffer op s = .next ((s.setCount 0#32).startEngine op) := by
  simp [startBuffer, hv, hr, hl, hw]

theorem CommandFrame.setCount {s t : State} (h : CommandFrame s t) (v : Word) :
    CommandFrame s (t.setCount v) := h

theorem CommandFrame.startEngine {s t : State} (h : CommandFrame s t) (op : EngOp) :
    CommandFrame s (t.startEngine op) := h

/-- The exact sums of R172 say when a range fails its check. -/
theorem rangeOk_eq_false_iff (s : State) : s.rangeOk = false ↔
    2 ^ 32 < s.src.toNat + s.len.toNat ∨ 2 ^ 32 < s.dst.toNat + s.len.toNat ∨
      (s.src.toNat < s.dst.toNat ∧ s.dst.toNat < s.src.toNat + s.len.toNat) := by
  rw [← Bool.not_eq_true, State.rangeOk_iff]
  omega

/-- Settles O21: each failed check ends the command with its code, and ending is all it does. -/
theorem bufferChecksComeInOrder : Obligations.BufferChecksComeInOrder := by
  intro i s hi
  obtain ⟨op, he⟩ : ∃ op, exec i = startBuffer op := by
    rcases hi with rfl | rfl
    · exact ⟨.enc, rfl⟩
    · exact ⟨.dec, rfl⟩
  rw [he]
  refine ⟨fun hv => ?_, fun hv hbad => ?_⟩
  · exact ⟨_, startBuffer_unconfigured op hv, State.endCommand_endedWith _ _, rfl, rfl, rfl, rfl,
      (CommandFrame.refl s).endCommand _⟩
  · exact ⟨_, startBuffer_badRange op hv ((rangeOk_eq_false_iff s).mpr hbad), State.endCommand_endedWith _ _,
      rfl, rfl, rfl, rfl, (CommandFrame.refl s).endCommand _⟩

/-- Settles O22: past the checks LEN alone decides between completing and starting the engine. -/
theorem bufferCommandStartsTheEngine : Obligations.BufferCommandStartsTheEngine := by
  intro i op s hi hv hsrc hdst hover
  have hr : s.rangeOk = true := s.rangeOk_iff.mpr ⟨hsrc, hdst, hover⟩
  rw [exec_buffer hi]
  refine ⟨fun hl => ?_, fun hl hw => ?_⟩
  · exact ⟨_, startBuffer_empty op hv hr hl, State.endCommand_endedWith _ _, rfl, rfl, rfl, rfl,
      ((CommandFrame.refl s).setCount _).endCommand _⟩
  · exact ⟨_, startBuffer_starts op hv hr hl hw, rfl, rfl, rfl, rfl, rfl, rfl, rfl,
      ((CommandFrame.refl s).setCount _).startEngine op⟩

end Sys2Proof.Machine
end

section
/-! PROOFS. One step of the engine (42_buffer_transform.md R175): what it does where both accesses complete, and how
a bus error ends the command. -/

namespace Sys2Proof.Machine

/-! ### Draws, addresses and the transform -/

/-- Draws leave the byte at an address not listed alone. -/
theorem Memory.read_drawAll_of_notMem (m : Memory) (k : Nat) {addrs : List Word} {a : Word} (ha : a ∉ addrs) :
    (m.drawAll k addrs).read a.toNat = m.read a.toNat :=
  Memory.read_drawAll_other m k addrs fun _ hb e => ha (BitVec.eq_of_toNat_eq e ▸ hb)

theorem Cfg.transform_eq_ite (c : Cfg) (op : EngOp) (x : Byte) :
    c.transform op x = if op = .enc then c.encryptByte x else c.decryptByte x := by
  cases op <;> rfl

/-- While a command runs, the read address is the exact sum (R172, R175). -/
theorem readAddr_toNat {s : State} (h : s.RunConsistent) (hb : s.busy = true) :
    s.readAddr.toNat = s.src.toNat + s.count.toNat := by
  obtain ⟨-, -, -, hc, hr, -⟩ := h hb
  obtain ⟨hsrc, -, -⟩ := s.rangeOk_iff.mp hr
  exact add_index_toNat hsrc hc

/-- While a command runs, the write address is the exact sum (R172, R175). -/
theorem writeAddr_toNat {s : State} (h : s.RunConsistent) (hb : s.busy = true) :
    s.writeAddr.toNat = s.dst.toNat + s.count.toNat := by
  obtain ⟨-, -, -, hc, hr, -⟩ := h hb
  obtain ⟨-, hdst, -⟩ := s.rangeOk_iff.mp hr
  exact add_index_toNat hdst hc

/-! ### Both accesses complete -/

/-- A running command whose two accesses at its next index complete. -/
structure State.Moves (s : State) : Prop where
  inv : s.RunInv
  busy : s.busy = true
  readOk : s.plat.answer s.readAddr .read = .ok
  writeOk : s.plat.answer s.writeAddr .write = .ok

namespace State.Moves

variable {s : State}

theorem engineStep_eq (h : s.Moves) : engineStep s =
    if s.count + 1#32 = s.len then s.moveByte.settleRaces.endCommand .none else s.moveByte := by
  simp [engineStep, h.busy, h.readOk, h.writeOk]

theorem count_lt (h : s.Moves) : s.count.toNat < s.len.toNat := by
  obtain ⟨-, -, -, hc, -⟩ := h.inv.1 h.busy
  exact hc

/-- Below LEN the next COUNT does not wrap. -/
theorem succ_count_toNat (h : s.Moves) : (s.count + 1#32).toNat = s.count.toNat + 1 := by
  have hc := h.count_lt
  rw [BitVec.toNat_add, BitVec.toNat_ofNat]
  omega

theorem succ_count_eq_len_iff (h : s.Moves) :
    s.count + 1#32 = s.len ↔ s.count.toNat + 1 = s.len.toNat := by
  rw [← BitVec.toNat_inj, h.succ_count_toNat]

theorem count_toNat (h : s.Moves) : (engineStep s).count.toNat = s.count.toNat + 1 := by
  rw [h.engineStep_eq, ← h.succ_count_toNat]
  split <;> simp

theorem busLog_eq (h : s.Moves) :
    (engineStep s).busLog = ⟨.write, s.writeAddr⟩ :: ⟨.read, s.readAddr⟩ :: s.busLog := by
  rw [h.engineStep_eq]
  split <;> simp [State.moveByte]

/-- The command completes at LEN. -/
theorem ends (h : s.Moves) (hl : s.count.toNat + 1 = s.len.toNat) : (engineStep s).endedWith .none := by
  rw [h.engineStep_eq, if_pos (h.succ_count_eq_len_iff.mpr hl)]
  exact State.endCommand_endedWith _ _

/-- Below LEN the command runs on, and its end is not reported. -/
theorem runs_on (h : s.Moves) (hl : s.count.toNat + 1 ≠ s.len.toNat) :
    (engineStep s).busy = true ∧ (engineStep s).done = false ∧ (engineStep s).errcode = .none := by
  obtain ⟨-, hd, he, -⟩ := h.inv.1 h.busy
  rw [h.engineStep_eq, if_neg (mt h.succ_count_eq_len_iff.mp hl)]
  exact ⟨h.busy, hd, he⟩

/-- The transformed byte is at the write address, unless a host raced for it. -/
theorem read_writeAddr (h : s.Moves) (ht : s.writeAddr ∉ s.tainted) :
    (engineStep s).mem.read s.writeAddr.toNat = s.engineByte := by
  obtain ⟨-, -, hm⟩ := h.inv
  have hmove : s.moveByte.mem.read s.writeAddr.toNat = s.engineByte := Memory.read_write_same hm _ _
  rw [h.engineStep_eq]
  split
  · exact (Memory.read_drawAll_of_notMem _ _ ht).trans hmove
  · exact hmove

/-- Without a race the step is one write of memory. -/
theorem mem_eq (h : s.Moves) (ht : s.tainted = []) :
    (engineStep s).mem = s.mem.write s.writeAddr.toNat s.engineByte := by
  rw [h.engineStep_eq]
  split <;> simp [State.moveByte, Memory.drawAll, ht]

theorem tainted_eq (h : s.Moves) (ht : s.tainted = []) : (engineStep s).tainted = [] := by
  rw [h.engineStep_eq]
  split <;> simp [ht]

end State.Moves

/-- Settles O47: the step's one equation gives COUNT, the accesses and the end; the byte is `E` or `D` of the one
read. -/
theorem engineStepMovesOneByte : Obligations.EngineStepMovesOneByte := by
  rintro s ⟨-, hinv⟩ hb hr hw
  have h : s.Moves := ⟨hinv, hb, hr, hw⟩
  refine ⟨h.count_toNat, h.busLog_eq, readAddr_toNat hinv.1 hb, writeAddr_toNat hinv.1 hb, h.ends, h.runs_on,
    fun ht => ?_, fun a hne ht => engineStep_read_other hne ht, by simp, by simp, by simp, by simp, by simp,
    by simp, by simp⟩
  rw [h.read_writeAddr ht, State.engineByte, Cfg.transform_eq_ite]

/-! ### Bus errors (R175; 20_memory.md R61) -/

theorem engineStep_readError {s : State} (hb : s.busy = true)
    (hr : s.plat.answer s.readAddr .read = .busError) : engineStep s = s.endReadError := by
  simp [engineStep, hb, hr]

theorem engineStep_writeError {s : State} (hb : s.busy = true)
    (hr : s.plat.answer s.readAddr .read = .ok) (hw : s.plat.answer s.writeAddr .write = .busError) :
    engineStep s = s.endWriteError := by
  simp [engineStep, hb, hr, hw]

@[simp] theorem State.endReadError_count (s : State) : s.endReadError.count = s.count := by
  simp [State.endReadError]

@[simp] theorem State.endWriteError_count (s : State) : s.endWriteError.count = s.count := by
  simp [State.endWriteError]

@[simp] theorem State.endReadError_mem (s : State) :
    s.endReadError.mem = s.mem.drawAll s.draws s.tainted := by
  simp [State.endReadError]

@[simp] theorem State.endWriteError_mem (s : State) : s.endWriteError.mem =
    (s.mem.drawAll s.draws [s.writeAddr]).drawAll (s.draws + 1) s.tainted := by
  simp [State.endWriteError]

/-- A read error draws the raced bytes alone. -/
theorem endReadError_read_other {s : State} {a : Word} (ht : a ∉ s.tainted) :
    s.endReadError.mem.read a.toNat = s.mem.read a.toNat := by
  rw [State.endReadError_mem, Memory.read_drawAll_of_notMem _ _ ht]

/-- A write error leaves a free value at the write address, raced or not. -/
theorem endWriteError_read_writeAddr {s : State} (hm : s.mem.wf = true) :
    ∃ n, s.draws ≤ n ∧ s.endWriteError.mem.read s.writeAddr.toNat = Config.freeByte n := by
  rw [State.endWriteError_mem]
  by_cases ht : s.writeAddr ∈ s.tainted
  · obtain ⟨n, hn, -, e⟩ := Memory.read_drawAll_mem (Memory.wf_drawAll hm s.draws [s.writeAddr]) (s.draws + 1)
      s.tainted ht
    exact ⟨n, Nat.le_of_succ_le hn, e⟩
  · rw [Memory.read_drawAll_of_notMem _ _ ht]
    obtain ⟨n, hn, -, e⟩ := Memory.read_drawAll_mem hm s.draws [s.writeAddr] List.mem_cons_self
    exact ⟨n, hn, e⟩

/-- Settles O48: each bus error is its own end of the command, and the end draws only the raced bytes and, after a
write error, the byte at the write address. -/
theorem busErrorsEndTheCommand : Obligations.BusErrorsEndTheCommand := by
  rintro s ⟨-, -, -, hm⟩ hb
  refine ⟨fun hr => ?_, fun hr hw => ?_⟩
  · have e := engineStep_readError hb hr
    refine ⟨e ▸ State.endCommand_endedWith _ _, by simp [e], fun a ht => e ▸ endReadError_read_other ht, ?_⟩
    simp
  · have e := engineStep_writeError hb hr hw
    refine ⟨e ▸ State.endCommand_endedWith _ _, by simp [e], e ▸ endWriteError_read_writeAddr hm,
      fun a hne ht => engineStep_read_other hne ht, ?_⟩
    simp

end Sys2Proof.Machine
end

section
/-! PROOFS. The progress of a buffer command without a race (42_buffer_transform.md R178, R179): the bytes below COUNT
are transformed from memory as it was at the start, through engine steps and orderly accesses. -/

namespace Sys2Proof.Machine

/-! ### What a running command has done so far -/

/-- The destination bytes below COUNT are transformed from the source bytes of `m0`. -/
def State.Transformed (m0 : Memory) (s : State) : Prop :=
  ∀ k : Nat, k < s.count.toNat → s.mem.read (s.dst.toNat + k) =
    s.cfg.transform s.engOp (m0.read (s.src.toNat + k))

/-- The source bytes from COUNT on are those of `m0`. -/
def State.Unread (m0 : Memory) (s : State) : Prop :=
  ∀ k : Nat, s.count.toNat ≤ k → k < s.len.toNat →
    s.mem.read (s.src.toNat + k) = m0.read (s.src.toNat + k)

/-- Every byte but the destination bytes below COUNT is that of `m0`. -/
def State.Untouched (m0 : Memory) (s : State) : Prop :=
  ∀ a : Nat, ¬(s.dst.toNat ≤ a ∧ a < s.dst.toNat + s.count.toNat) → s.mem.read a = m0.read a

/-- The ranges are disjoint or the source lies above the destination, so a source byte not yet read is not yet
written (R172). -/
theorem State.Untouched.unread {m0 : Memory} {s : State} (h : s.Untouched m0) (hr : s.rangeOk = true) :
    s.Unread m0 := by
  obtain ⟨-, -, hover⟩ := s.rangeOk_iff.mp hr
  exact fun k hk hl => h _ (by omega)

namespace State.Moves

variable {s : State} {m0 : Memory}

/-- The step transforms the byte at COUNT and keeps those below. -/
theorem transformed (h : s.Moves) (ht : s.tainted = []) (htr : s.Transformed m0) (hun : s.Unread m0) :
    (engineStep s).Transformed m0 := by
  obtain ⟨hrun, -, hm⟩ := h.inv
  intro k hk
  rw [h.count_toNat] at hk
  rw [h.mem_eq ht, engineStep_dst, engineStep_cfg, engineStep_engOp, engineStep_src,
    writeAddr_toNat hrun h.busy]
  by_cases hlast : k = s.count.toNat
  · rw [hlast, Memory.read_write_same hm, State.engineByte, readAddr_toNat hrun h.busy,
      hun _ le_rfl h.count_lt]
  · rw [Memory.read_write_other _ _ (by omega)]
    exact htr k (by omega)

/-- The step writes no source byte that is still to be read. -/
theorem unread (h : s.Moves) (ht : s.tainted = []) (hun : s.Unread m0) : (engineStep s).Unread m0 := by
  obtain ⟨-, -, -, -, hr, -⟩ := h.inv.1 h.busy
  obtain ⟨-, -, hover⟩ := s.rangeOk_iff.mp hr
  intro k hk hl
  rw [h.count_toNat] at hk
  rw [engineStep_len] at hl
  rw [h.mem_eq ht, engineStep_src, writeAddr_toNat h.inv.1 h.busy,
    Memory.read_write_other _ _ (by omega)]
  exact hun k (by omega) hl

/-- The step writes the byte at COUNT alone. -/
theorem untouched (h : s.Moves) (ht : s.tainted = []) (hout : s.Untouched m0) :
    (engineStep s).Untouched m0 := by
  intro a ha
  rw [h.count_toNat, engineStep_dst] at ha
  rw [h.mem_eq ht, writeAddr_toNat h.inv.1 h.busy, Memory.read_write_other _ _ (by omega)]
  exact hout a (by omega)

end State.Moves

/-! ### Orderly steps (20_memory.md R73; 60_exceptions.md R215) -/

/-- The running command and the bytes of its two ranges are the same. -/
structure LeavesCommand (s t : State) : Prop where
  src : t.src = s.src
  dst : t.dst = s.dst
  len : t.len = s.len
  count : t.count = s.count
  cfg : t.cfg = s.cfg
  engOp : t.engOp = s.engOp
  tainted : t.tainted = s.tainted
  read : ∀ a : Nat, (s.src.toNat ≤ a ∧ a < s.src.toNat + s.len.toNat) ∨
    (s.dst.toNat ≤ a ∧ a < s.dst.toNat + s.len.toNat) → t.mem.read a = s.mem.read a

theorem LeavesCommand.transformed {s t : State} {m0 : Memory} (h : LeavesCommand s t)
    (hc : s.count.toNat ≤ s.len.toNat) (htr : s.Transformed m0) : t.Transformed m0 := by
  intro k hk
  rw [h.count] at hk
  rw [h.dst, h.cfg, h.engOp, h.src, h.read _ (by omega)]
  exact htr k hk

theorem LeavesCommand.unread {s t : State} {m0 : Memory} (h : LeavesCommand s t) (hun : s.Unread m0) :
    t.Unread m0 := by
  intro k hk hl
  rw [h.count] at hk
  rw [h.len] at hl
  rw [h.src, h.read _ (by omega)]
  exact hun k hk hl

/-- A host's write outside both ranges leaves the running command alone. -/
theorem memWrite_leavesCommand {s t : State} {host : Nat} {rest : List Event} {a : Word} {v : Byte}
    (hsrc : s.inSource a = false) (hdst : s.inDest a = false)
    (ht : t = (hostRace a ((s.withSchedule rest).setByte a v)).answerHost host .ok ∨
      t = (hostRace a ((s.withSchedule rest).drawBytes [a])).answerHost host .ok) : LeavesCommand s t := by
  have hs := sameBlock_of_memWrite ht
  refine ⟨hs.src, hs.dst, hs.len, hs.count, hs.cfg, hs.engOp, ?_, fun b hb => ?_⟩
  · rcases ht with rfl | rfl
    · simp [hostRace_outside (s := (s.withSchedule rest).setByte a v) hsrc hdst]
    · simp [hostRace_outside (s := (s.withSchedule rest).drawBytes [a]) hsrc hdst]
  · rw [← Bool.not_eq_true, State.inSource_iff] at hsrc
    rw [← Bool.not_eq_true, State.inDest_iff] at hdst
    have hne : b ≠ a.toNat := by omega
    rcases ht with rfl | rfl
    · simp [Memory.read_write_other _ _ hne]
    · simp [Memory.drawAll, Memory.read_write_other _ _ hne]

/-- While a command runs, a write to the register window leaves its operands, its races and memory alone
(10_state.md R39). -/
theorem writeRegister_leavesCommand {s t : State} {host : Nat} {rest : List Event} {r : Reg} {v : Word}
    (hb : s.busy = true) (h : writeRegister r v ((s.withSchedule rest).answerHost host .ok) = .next t) :
    LeavesCommand s t := by
  rcases writeRegister_cases h with ⟨-, rfl⟩ | ⟨-, rfl⟩ | ⟨-, -, rfl⟩ | ⟨hidle, -⟩ | ⟨hidle, -⟩ |
    ⟨hidle, -⟩ | ⟨hidle, -⟩ | ⟨-, rfl⟩
  case inr.inr.inr.inl | inr.inr.inr.inr.inl | inr.inr.inr.inr.inr.inl | inr.inr.inr.inr.inr.inr.inl =>
    simp [hb] at hidle
  all_goals exact ⟨rfl, rfl, rfl, rfl, rfl, rfl, rfl, fun _ _ => rfl⟩

/-- A scheduled orderly write of memory is outside both ranges of a running command. -/
theorem outside_of_orderly {s : State} {host : Nat} {cached : Bool} {a : Word} {v : Byte} {rest : List Event}
    (ho : s.orderly = true) (hb : s.busy = true) (hs : s.schedule = .memWrite host cached a v :: rest) :
    s.inSource a = false ∧ s.inDest a = false := by
  simp only [State.orderly, hs, Event.races, hb, Bool.and_eq_true, Bool.not_eq_true', Bool.true_and,
    Bool.or_eq_false_iff] at ho
  obtain ⟨-, hout⟩ := ho
  exact hout

/-- An orderly step that is no reset is the engine's, or leaves the running command alone. -/
theorem orderly_step_cases {s t : State} (h : step s = .next t) (hb : s.busy = true) (ho : s.orderly = true)
    (hn : ¬s.resetsNext) :
    (∃ rest, t = engineStep (s.withSchedule rest)) ∨ LeavesCommand s t := by
  rcases step_inversion h with ⟨-, he⟩ | ⟨hr, -⟩ | ⟨host, rest, r, rfl⟩ | ⟨host, rest, r, rfl⟩ |
    ⟨host, rest, c, a, v, hs, ht⟩ | ⟨host, rest, r, v, -, hw⟩
  · exact .inl he
  · exact absurd hr hn
  · exact .inr ⟨rfl, rfl, rfl, rfl, rfl, rfl, rfl, fun _ _ => rfl⟩
  · exact .inr ⟨rfl, rfl, rfl, rfl, rfl, rfl, rfl, fun _ _ => rfl⟩
  · obtain ⟨hsrc, hdst⟩ := outside_of_orderly ho hb hs
    exact .inr (memWrite_leavesCommand hsrc hdst ht)
  · exact .inr (writeRegister_leavesCommand hb hw)

/-- An engine step that reports no error either waits or moves a byte. -/
theorem engineStep_eq_or_moves {s : State} (h : s.RunInv) (he : (engineStep s).errcode = .none) :
    engineStep s = s ∨ s.Moves := by
  rcases engineStep_cases s with ⟨-, e⟩ | ⟨-, e, -⟩ | ⟨-, -, e⟩ | ⟨-, -, -, e⟩ | ⟨hb, hr, hw, -⟩ |
    ⟨hb, hr, hw, -⟩
  · exact .inl e
  · exact .inl e
  · simp [e, State.endReadError] at he
  · simp [e, State.endWriteError] at he
  · exact .inr ⟨h, hb, hr, hw⟩
  · exact .inr ⟨h, hb, hr, hw⟩

/-- An engine step without an error or a race keeps the progress. -/
theorem engineStep_keeps_progress {m0 : Memory} {s : State} (h : s.RunInv) (ht : s.tainted = [])
    (he : (engineStep s).errcode = .none) (htr : s.Transformed m0) (hun : s.Unread m0) :
    (engineStep s).tainted = [] ∧ (engineStep s).Transformed m0 ∧ (engineStep s).Unread m0 := by
  rcases engineStep_eq_or_moves h he with e | hmove
  · rw [e]
    exact ⟨ht, htr, hun⟩
  · exact ⟨hmove.tainted_eq ht, hmove.transformed ht htr hun, hmove.unread ht hun⟩

/-- Settles O53: the engine's step by `engineStep_keeps_progress`, and every other orderly step leaves the command's
registers and ranges alone. -/
theorem progressSurvivesOrderlySteps : Obligations.ProgressSurvivesOrderlySteps := by
  rintro m0 s t ⟨-, hinv⟩ hb htaint ho hn h htr hun he
  rcases orderly_step_cases h hb ho hn with ⟨rest, rfl⟩ | hl
  · exact engineStep_keeps_progress (s := s.withSchedule rest) hinv htaint he htr hun
  · obtain ⟨-, -, -, hc, -⟩ := hinv.1 hb
    exact ⟨hl.tainted.trans htaint, hl.transformed hc.le htr, hl.unread hun⟩

end Sys2Proof.Machine
end

section
/-! PROOFS. Whole buffer commands with nothing scheduled (42_buffer_transform.md R178, R179): all accesses complete, or
the first bus error is at index `k`. -/

namespace Sys2Proof.Machine

/-! ### Engine steps in a row -/

/-- With nothing scheduled, the run is the engine's (00_scope.md R14). -/
theorem steps_eq_iterate_engineStep (n : Nat) {s : State} (hs : s.schedule = []) :
    steps n s = .next (engineStep^[n] s) := by
  induction n generalizing s with
  | zero => rfl
  | succ n ih =>
    rw [steps_succ (step_engine hs), Function.iterate_succ_apply]
    exact ih (by simpa using hs)

/-- What every engine step leaves alone, any number of them does. -/
theorem iterate_engineStep_of_keeps {α : Type} {f : State → α} (hf : ∀ s, f (engineStep s) = f s) (n : Nat)
    (s : State) : f (engineStep^[n] s) = f s := by
  induction n with
  | zero => rfl
  | succ n ih => rw [Function.iterate_succ_apply', hf, ih]

@[simp] theorem iterate_engineStep_src (n : Nat) (s : State) : (engineStep^[n] s).src = s.src :=
  iterate_engineStep_of_keeps engineStep_src n s
@[simp] theorem iterate_engineStep_dst (n : Nat) (s : State) : (engineStep^[n] s).dst = s.dst :=
  iterate_engineStep_of_keeps engineStep_dst n s
@[simp] theorem iterate_engineStep_len (n : Nat) (s : State) : (engineStep^[n] s).len = s.len :=
  iterate_engineStep_of_keeps engineStep_len n s
@[simp] theorem iterate_engineStep_cfg (n : Nat) (s : State) : (engineStep^[n] s).cfg = s.cfg :=
  iterate_engineStep_of_keeps engineStep_cfg n s
@[simp] theorem iterate_engineStep_engOp (n : Nat) (s : State) : (engineStep^[n] s).engOp = s.engOp :=
  iterate_engineStep_of_keeps engineStep_engOp n s
@[simp] theorem iterate_engineStep_plat (n : Nat) (s : State) : (engineStep^[n] s).plat = s.plat :=
  iterate_engineStep_of_keeps engineStep_plat n s

theorem word_eq_ofNat {w : Word} {k : Nat} (h : w.toNat = k) : w = BitVec.ofNat 32 k := by
  rw [← h, BitVec.ofNat_toNat, BitVec.setWidth_eq]

theorem iterate_engineStep_readAddr {k : Nat} {s : State} (hc : (engineStep^[k] s).count.toNat = k) :
    (engineStep^[k] s).readAddr = s.src + BitVec.ofNat 32 k := by
  rw [State.readAddr, word_eq_ofNat hc, iterate_engineStep_src]

theorem iterate_engineStep_writeAddr {k : Nat} {s : State} (hc : (engineStep^[k] s).count.toNat = k) :
    (engineStep^[k] s).writeAddr = s.dst + BitVec.ofNat 32 k := by
  rw [State.writeAddr, word_eq_ofNat hc, iterate_engineStep_dst]

/-! ### The run up to an index -/

/-- A command runs without a race, and what it has changed in `m0` is the transform of its first COUNT bytes. -/
structure State.RunsFrom (m0 : Memory) (s : State) : Prop where
  inv : s.RunInv
  busy : s.busy = true
  tainted : s.tainted = []
  transformed : s.Transformed m0
  untouched : s.Untouched m0

namespace State.RunsFrom

variable {m0 : Memory} {s : State}

theorem unread (h : s.RunsFrom m0) : s.Unread m0 := by
  obtain ⟨-, -, -, -, hr, -⟩ := h.inv.1 h.busy
  exact h.untouched.unread hr

/-- A byte moved below LEN lets the command run on. -/
theorem next (h : s.RunsFrom m0) (hm : s.Moves) (hl : s.count.toNat + 1 ≠ s.len.toNat) :
    (engineStep s).RunsFrom m0 :=
  ⟨engineStep_keeps_runInv h.inv, (hm.runs_on hl).1, hm.tainted_eq h.tainted,
    hm.transformed h.tainted h.transformed h.unread, hm.untouched h.tainted h.untouched⟩

/-- After `k` steps the accesses at index `k` decide whether the next byte moves. -/
theorem moves {k : Nat} (h : (engineStep^[k] s).RunsFrom m0)
    (hc : (engineStep^[k] s).count.toNat = k)
    (hr : s.plat.answer (s.src + BitVec.ofNat 32 k) .read = .ok)
    (hw : s.plat.answer (s.dst + BitVec.ofNat 32 k) .write = .ok) : (engineStep^[k] s).Moves :=
  ⟨h.inv, h.busy, by rw [iterate_engineStep_readAddr hc, iterate_engineStep_plat, hr],
    by rw [iterate_engineStep_writeAddr hc, iterate_engineStep_plat, hw]⟩

/-- While every access completes, `k` steps below LEN move `k` bytes. -/
theorem iterate (h : s.RunsFrom m0) (h0 : s.count = 0#32) {k : Nat} (hk : k < s.len.toNat)
    (hok : s.AccessesOk 0 k) :
    (engineStep^[k] s).RunsFrom m0 ∧ (engineStep^[k] s).count.toNat = k := by
  induction k with
  | zero => exact ⟨h, by simp [h0]⟩
  | succ k ih =>
    obtain ⟨hrun, hc⟩ := ih (by omega) fun j hj hjk => hok j hj (by omega)
    obtain ⟨hr, hw⟩ := hok k (by omega) (by omega)
    have hm := hrun.moves hc hr hw
    rw [Function.iterate_succ_apply']
    exact ⟨hrun.next hm (by rw [hc, iterate_engineStep_len]; omega), by rw [hm.count_toNat, hc]⟩

/-- When every access completes, LEN steps end the command with its whole range transformed (R178). -/
theorem completes (h : s.RunsFrom m0) (h0 : s.count = 0#32) (hok : s.AccessesOk 0 s.len.toNat) :
    (engineStep^[s.len.toNat] s).endedWith .none ∧
      (engineStep^[s.len.toNat] s).count.toNat = s.len.toNat ∧
      (engineStep^[s.len.toNat] s).Transformed m0 ∧
      (engineStep^[s.len.toNat] s).Untouched m0 := by
  obtain ⟨-, -, -, hpos, -⟩ := h.inv.1 h.busy
  obtain ⟨k, hk⟩ := Nat.exists_eq_succ_of_ne_zero (Nat.ne_zero_of_lt hpos)
  obtain ⟨hrun, hc⟩ := h.iterate h0 (k := k) (by omega) fun j hj hjk => hok j hj (by omega)
  obtain ⟨hr, hw⟩ := hok k (by omega) (by omega)
  have hm := hrun.moves hc hr hw
  rw [hk, Function.iterate_succ_apply']
  exact ⟨hm.ends (by rw [hc, iterate_engineStep_len, hk]), by rw [hm.count_toNat, hc],
    hm.transformed hrun.tainted hrun.transformed hrun.unread, hm.untouched hrun.tainted hrun.untouched⟩

/-- A bus error at the next index ends the command; it changes at most the byte at the write address, and after a
read error none (R179). -/
theorem busError (h : s.RunsFrom m0) {e : ErrCode}
    (he : (s.plat.answer s.readAddr .read = .busError ∧ e = .busErrorRead) ∨
      (s.plat.answer s.readAddr .read = .ok ∧ s.plat.answer s.writeAddr .write = .busError ∧
        e = .busErrorWrite)) :
    (engineStep s).endedWith e ∧ (engineStep s).count = s.count ∧
      ∀ a : Nat, (e = .busErrorRead ∨ a ≠ s.dst.toNat + s.count.toNat) →
        (engineStep s).mem.read a = s.mem.read a := by
  rcases he with ⟨hr, rfl⟩ | ⟨hr, hw, rfl⟩
  · rw [engineStep_readError h.busy hr]
    exact ⟨State.endCommand_endedWith _ _, s.endReadError_count, fun a _ => by simp [h.tainted, Memory.drawAll]⟩
  · rw [engineStep_writeError h.busy hr hw]
    refine ⟨State.endCommand_endedWith _ _, s.endWriteError_count, fun a ha => ?_⟩
    have hne : a ≠ s.writeAddr.toNat := by
      rw [writeAddr_toNat h.inv.1 h.busy]
      exact ha.resolve_left (by simp)
    simp [h.tainted, Memory.drawAll, Memory.read_write_other _ _ hne]

end State.RunsFrom

/-! ### From the CMD write to the end -/

/-- What the CMD write of a buffer command leaves when it starts the engine (R174). -/
def State.started (s : State) (op : EngOp) : State := (s.accept.setCount 0#32).startEngine op

@[simp] theorem State.started_src (s : State) (op : EngOp) : (s.started op).src = s.src := rfl
@[simp] theorem State.started_dst (s : State) (op : EngOp) : (s.started op).dst = s.dst := rfl
@[simp] theorem State.started_len (s : State) (op : EngOp) : (s.started op).len = s.len := rfl
@[simp] theorem State.started_cfg (s : State) (op : EngOp) : (s.started op).cfg = s.cfg := rfl
@[simp] theorem State.started_engOp (s : State) (op : EngOp) : (s.started op).engOp = op := rfl
@[simp] theorem State.started_count (s : State) (op : EngOp) : (s.started op).count = 0#32 := rfl

/-- An accepted buffer command past its checks leaves the started engine. -/
theorem exec_buffer_started {i : Instr} {op : EngOp} {s : State}
    (hi : (i = .encbuf ∧ op = .enc) ∨ (i = .decbuf ∧ op = .dec)) (hv : s.cfg.valid = true)
    (hr : s.rangeOk = true) (hl : s.len ≠ 0#32) (hw : s.windowClear = true) :
    exec i s.accept = .next (s.started op) := by
  rw [exec_buffer hi]
  exact startBuffer_starts (s := s.accept) op hv hr hl hw

/-- A started command has its operands as they were, and no byte has moved. -/
theorem started_runsFrom {s : State} (op : EngOp) (hinv : s.Inv) (hb : s.busy = false)
    (hv : s.cfg.valid = true) (hr : s.rangeOk = true) (hl : s.len ≠ 0#32) (hw : s.windowClear = true) :
    (s.started op).RunsFrom s.mem := by
  obtain ⟨-, hrun⟩ := hinv
  -- The invariant does not depend on which of the two words started the engine.
  have hissue : IssueEffect (encode .encbuf) s (s.started op) :=
    .started op (.inl (decode_encode .encbuf)) hv hr hl hw rfl
  have ⟨_, ⟨hidle, _⟩, _⟩ := hrun
  exact ⟨hissue.runInv hb hrun, rfl, hidle hb, fun k hk => absurd hk (by simp), fun _ _ => rfl⟩

/-- Settles O49: the CMD write starts the engine, each step moves one byte, and the step at LEN ends. -/
theorem bufferCommandTransformsItsRange : Obligations.BufferCommandTransformsItsRange := by
  intro i op s hi hinv hb hs hv hr hl hw hok
  have h : (s.started op).RunsFrom s.mem := started_runsFrom op hinv hb hv hr hl hw
  have hrun (n : Nat) : steps n (s.started op) = .next (engineStep^[n] (s.started op)) :=
    steps_eq_iterate_engineStep n hs
  obtain ⟨hend, hcount, htr, hout⟩ := h.completes rfl hok
  refine ⟨s.started op, _, exec_buffer_started hi hv hr hl hw, hrun _, hend, BitVec.eq_of_toNat_eq hcount,
    fun k hk => ?_, fun a ha => hout a ?_, fun k hk => ?_⟩
  · simpa [Cfg.transform_eq_ite] using htr k (hk.trans_eq hcount.symm)
  · rw [hcount, iterate_engineStep_dst]
    exact ha
  · obtain ⟨hk', hc⟩ := h.iterate rfl hk fun j hj hjk => hok j hj (hjk.trans hk)
    obtain ⟨-, hdone, -⟩ := hk'.inv.1 hk'.busy
    exact ⟨_, hrun k, hk'.busy, hdone, hc⟩

/-- Settles O50: `k` steps move the bytes below `k`, and the bus error of the next step ends the command. -/
theorem busErrorLeavesAPrefix : Obligations.BusErrorLeavesAPrefix := by
  intro i op s k e hi hinv hb hs hv hr hk hw hok herr
  have hl : s.len ≠ 0#32 := fun h0 => by simp [h0] at hk
  have h : (s.started op).RunsFrom s.mem := started_runsFrom op hinv hb hv hr hl hw
  obtain ⟨hrun, hc⟩ := h.iterate rfl hk hok
  obtain ⟨hend, hcount, hmem⟩ := hrun.busError (e := e)
    (by rw [iterate_engineStep_readAddr hc, iterate_engineStep_writeAddr hc, iterate_engineStep_plat]; exact herr)
  simp only [iterate_engineStep_dst, hc, State.started_dst] at hmem
  refine ⟨s.started op, _, exec_buffer_started hi hv hr hl hw, steps_eq_iterate_engineStep (k + 1) hs, ?_⟩
  rw [Function.iterate_succ_apply']
  refine ⟨hend, by rw [hcount, hc], fun j hj => ?_, fun j hkj _ => ?_, fun he => ?_⟩
  · rw [hmem _ (.inr (by omega))]
    simpa [Cfg.transform_eq_ite] using hrun.transformed j (hj.trans_eq hc.symm)
  · rw [hmem _ (.inr (by omega))]
    exact hrun.untouched _ (by simp [hc]; omega)
  · rw [hmem _ (.inl he)]
    exact hrun.untouched _ (by simp [hc])

end Sys2Proof.Machine
end

section
/-! PROOFS. What a command, the engine and a host may touch (60_exceptions.md): the frame of every command (R202),
the engine's accesses (R215), and the block's blindness to the host number (R212). -/

namespace Sys2Proof.Machine

/-! ### The frame of a command, by the meaning that runs it (60_exceptions.md R202) -/

/-- Inside its CMD write a buffer command changes COUNT, the direction and the report alone. -/
theorem startBuffer_frame {op : EngOp} {s t : State} (h : startBuffer op s = .next t) :
    CommandFrame s t ∧ t.cfg = s.cfg ∧ t.result = s.result := by
  have hs := CommandFrame.refl s
  rcases startBuffer_cases h with ⟨-, rfl⟩ | ⟨-, -, rfl⟩ | ⟨-, -, -, rfl⟩ | ⟨-, -, -, -, rfl⟩
  · exact ⟨hs.endCommand _, rfl, rfl⟩
  · exact ⟨hs.endCommand _, rfl, rfl⟩
  · exact ⟨(hs.setCount _).endCommand _, rfl, rfl⟩
  · exact ⟨(hs.setCount _).startEngine op, rfl, rfl⟩

/-- A byte command changes RESULT and the report alone. -/
theorem byteCommand_frame {op : EngOp} {x : Byte} {s t : State} (h : byteCommand op x s = .next t) :
    CommandFrame s t ∧ t.cfg = s.cfg ∧ t.count = s.count ∧ t.engOp = s.engOp := by
  have hs := CommandFrame.refl s
  rcases byteCommand_cases h with ⟨-, rfl⟩ | ⟨-, rfl⟩
  · exact ⟨(hs.setResult _).endCommand _, rfl, rfl, rfl⟩
  · exact ⟨hs.endCommand _, rfl, rfl, rfl⟩

/-- CFG changes the configuration, RESULT and the report alone, whatever the multiplier. -/
theorem execCfg_frame {a b : Byte} {s t : State} (h : exec (.cfg a b) s = .next t) :
    CommandFrame s t ∧ t.count = s.count ∧ t.engOp = s.engOp := by
  have hs := CommandFrame.refl s
  rcases Nat.mod_two_eq_zero_or_one a.toNat with ha | ha
  · rw [exec_cfg_even ha] at h
    cases h
    exact ⟨hs.discard.endCommand _, rfl, rfl⟩
  · rw [exec_cfg_odd ha] at h
    cases h
    exact ⟨(hs.setCfg _).endCommand _, rfl, rfl⟩

/-- Settles O24: each command has the frame of the meaning that runs it. -/
theorem commandsKeepTheirFrame : Obligations.CommandsKeepTheirFrame := by
  intro i s t h
  have hs := CommandFrame.refl s
  cases i with
  | nop =>
    cases h
    exact ⟨hs.endCommand _, fun _ _ => rfl, fun _ _ => ⟨rfl, rfl⟩, fun _ => rfl⟩
  | cfg a b =>
    obtain ⟨hf, hcount⟩ := execCfg_frame h
    exact ⟨hf, fun hn => absurd rfl (hn a b), fun _ _ => hcount, by simp⟩
  | encb | decb =>
    obtain ⟨hf, hcfg, hcount⟩ := byteCommand_frame h
    exact ⟨hf, fun _ _ => hcfg, fun _ _ => hcount, by simp⟩
  | encbuf =>
    obtain ⟨hf, hcfg, hresult⟩ := startBuffer_frame h
    exact ⟨hf, fun _ _ => hcfg, fun hn => absurd rfl hn, fun _ => hresult⟩
  | decbuf =>
    obtain ⟨hf, hcfg, hresult⟩ := startBuffer_frame h
    exact ⟨hf, fun _ _ => hcfg, fun _ hn => absurd rfl hn, fun _ => hresult⟩
  | clr =>
    cases h
    exact ⟨hs.discard.endCommand _, fun _ hn => absurd rfl hn, fun _ _ => ⟨rfl, rfl⟩, by simp⟩

/-! ### The engine's accesses (20_memory.md R66, R70; 60_exceptions.md R215) -/

/-- An engine step records nothing, the read, or the read and then the write of its index. -/
theorem engineStep_busLog (s : State) : (engineStep s).busLog = s.busLog ∨
    s.busy = true ∧ ((engineStep s).busLog = [⟨.read, s.readAddr⟩] ++ s.busLog ∨
      (engineStep s).busLog = [⟨.write, s.writeAddr⟩, ⟨.read, s.readAddr⟩] ++ s.busLog) := by
  rcases engineStep_cases s with ⟨-, e⟩ | ⟨-, e, -⟩ | ⟨hb, -, e⟩ | ⟨hb, -, -, e⟩ | ⟨hb, -, -, -, e⟩ |
    ⟨hb, -, -, -, e⟩
  · exact .inl (by rw [e])
  · exact .inl (by rw [e])
  · exact .inr ⟨hb, .inl (by rw [e]; rfl)⟩
  · exact .inr ⟨hb, .inr (by rw [e]; rfl)⟩
  · exact .inr ⟨hb, .inr (by rw [e]; rfl)⟩
  · exact .inr ⟨hb, .inr (by rw [e]; rfl)⟩

/-- A write to the register window makes no engine access, whatever command it issues. -/
theorem writeRegister_busLog {r : Reg} {v : Word} {s t : State} (h : writeRegister r v s = .next t) :
    t.busLog = s.busLog := by
  rcases writeRegister_cases h with ⟨-, rfl⟩ | ⟨-, rfl⟩ | ⟨-, -, rfl⟩ | ⟨-, -, hi⟩ | ⟨-, -, rfl⟩ |
    ⟨-, -, rfl⟩ | ⟨-, -, rfl⟩ | ⟨-, rfl⟩
  case inr.inr.inr.inl =>
    obtain ⟨-, -, -, -, -, -, -, -, hlog, -⟩ := (issue_effect hi).frame
    exact hlog
  all_goals rfl

/-- Only the engine's own step makes an engine access (20_memory.md R66). -/
theorem engineStep_of_busLog_ne {s t : State} (h : step s = .next t) (hne : t.busLog ≠ s.busLog) :
    s.enginesNext ∧ ∃ rest, t = engineStep (s.withSchedule rest) := by
  rcases step_inversion h with he | ⟨-, rest, rfl⟩ | ⟨host, rest, r, rfl⟩ | ⟨host, rest, r, rfl⟩ |
    ⟨host, rest, c, b, v, -, rfl | rfl⟩ | ⟨host, rest, r, v, -, hw⟩
  · exact he
  · exact absurd (resetBlock_busLog _) hne
  · exact absurd rfl hne
  · exact absurd rfl hne
  · exact absurd (hostRace_busLog _ _) hne
  · exact absurd (hostRace_busLog _ _) hne
  · exact absurd (writeRegister_busLog hw) hne

/-- The engine reads inside the source range (42_buffer_transform.md R175). -/
theorem inSource_readAddr {s : State} (h : s.RunConsistent) (hb : s.busy = true) :
    s.inSource s.readAddr = true := by
  obtain ⟨-, -, -, hc, -, -⟩ := h hb
  rw [State.inSource_iff, readAddr_toNat h hb]
  omega

/-- Settles O43: only an engine step adds accesses, and those are the read and the write of its index. -/
theorem engineAccessesStayInRange : Obligations.EngineAccessesStayInRange := by
  rintro s t ⟨-, hrun, -⟩ h hne
  obtain ⟨hn, rest, rfl⟩ := engineStep_of_busLog_ne h hne
  obtain ⟨hb, hlog⟩ := (engineStep_busLog (s.withSchedule rest)).resolve_left hne
  have hread := And.intro (readAddr_toNat hrun hb) (inSource_readAddr hrun hb)
  have hwrite := And.intro (writeAddr_toNat hrun hb) (inDest_writeAddr hrun hb)
  refine ⟨hn, hb, ?_⟩
  rcases hlog with hlog | hlog
  · refine ⟨_, hlog, fun x hx => .inl ?_⟩
    obtain rfl := List.mem_singleton.mp hx
    exact ⟨rfl, hread⟩
  · refine ⟨_, hlog, fun x hx => ?_⟩
    obtain rfl | rfl := List.mem_pair.mp hx
    · exact .inr ⟨rfl, hwrite⟩
    · exact .inl ⟨rfl, hread⟩

/-! ### The host number (60_exceptions.md R209, R212)

A register write acts on a state that already holds the reply to its host, so the host number cannot matter once
nothing the write runs reads or changes that reply. -/

/-- The state with another record of who was answered last, and with what. -/
def State.withReply (p : Option (Nat × Reply)) (s : State) : State := { s with reply := p }

/-- An outcome with its next state, if there is one, changed by `g`. -/
def mapNext (g : State → State) : Host.Outcome State Fault Refusal → Host.Outcome State Fault Refusal
  | .next s => .next (g s)
  | .fault r => .fault r
  | .refused r => .refused r

/-- `f` neither reads nor changes the last reply: replacing it before or after `f` is the same. -/
def IgnoresReply (f : State → Host.Outcome State Fault Refusal) : Prop :=
  ∀ (p : Option (Nat × Reply)) (s : State), f (s.withReply p) = mapNext (State.withReply p) (f s)

/-- What ignores the reply does the same after an answer to any host, and leaves that answer. -/
theorem IgnoresReply.answerHost {f : State → Host.Outcome State Fault Refusal} (hf : IgnoresReply f) {host : Nat}
    {r : Reply} {s t : State} (h : f (s.answerHost host r) = .next t) :
    t.reply = some (host, r) ∧ ∀ k, f (s.answerHost k r) = .next (t.answerHost k r) := by
  have he (k : Nat) : f (s.answerHost k r) = .next (t.answerHost k r) := by
    have hk := hf (some (k, r)) (s.answerHost host r)
    rwa [h] at hk
  exact ⟨congrArg State.reply (Host.Outcome.next.inj (h.symm.trans (he host))), he⟩

theorem startBuffer_ignoresReply (op : EngOp) : IgnoresReply (startBuffer op) := by
  intro p s
  simp only [startBuffer, apply_ite (mapNext (State.withReply p))]
  rfl

theorem byteCommand_ignoresReply (op : EngOp) (x : Byte) : IgnoresReply (byteCommand op x) := by
  intro p s
  simp only [byteCommand, apply_ite (mapNext (State.withReply p))]
  rfl

theorem execCfg_ignoresReply (a b : Byte) : IgnoresReply (execCfg a b) := by
  intro p s
  simp only [execCfg, apply_ite (mapNext (State.withReply p))]
  rfl

/-- No command reads or changes the reply. -/
theorem exec_ignoresReply (i : Instr) : IgnoresReply (exec i) := by
  cases i with
  | nop => exact fun _ _ => rfl
  | cfg a b => exact execCfg_ignoresReply a b
  | encb x => exact byteCommand_ignoresReply .enc x
  | decb y => exact byteCommand_ignoresReply .dec y
  | encbuf => exact startBuffer_ignoresReply .enc
  | decbuf => exact startBuffer_ignoresReply .dec
  | clr => exact fun _ _ => rfl

theorem issue_ignoresReply (w : Word) : IgnoresReply (issue w) := by
  intro p s
  unfold issue
  cases decode w with
  | command i => exact exec_ignoresReply i p s.accept
  | invalid => rfl

/-- No register write reads or changes the reply. -/
theorem writeRegister_ignoresReply (r : Reg) (v : Word) : IgnoresReply (writeRegister r v) := by
  intro p s
  have hb : (s.withReply p).busy = s.busy := rfl
  cases r with
  | ctrl | status | id | result | count => rfl
  | cmd =>
    simp only [writeRegister, hb, issue_ignoresReply v p s, apply_ite (mapNext (State.withReply p))]
    rfl
  | src | dst | len =>
    simp only [writeRegister, hb]
    cases s.busy <;> rfl

/-- A host write to the window does the same for every host but for who is answered. -/
theorem hostRegWrite_any_host {host : Nat} {width : AccessWidth} {offset : BitVec 6} {v : Word} {s t : State}
    (h : hostRegWrite host width offset v s = .next t) :
    ∃ r, t.reply = some (host, r) ∧ ∀ k, hostRegWrite k width offset v s = .next (t.answerHost k r) := by
  unfold hostRegWrite at h ⊢
  generalize selectRegister width offset = selected at h ⊢
  cases selected with
  | busError =>
    cases h
    exact ⟨.busError, rfl, fun _ => rfl⟩
  | reserved =>
    cases h
    exact ⟨.ok, rfl, fun _ => rfl⟩
  | register r => exact ⟨.ok, (writeRegister_ignoresReply r v).answerHost h⟩

/-- A host read of the window gives every host the same. -/
theorem hostRegRead_any_host (width : AccessWidth) (offset : BitVec 6) (s : State) :
    ∃ r, ∀ k, hostRegRead k width offset s = s.answerHost k r := by
  unfold hostRegRead
  cases selectRegister width offset <;> exact ⟨_, fun _ => rfl⟩

/-- A state with another event scheduled takes that event's step. -/
theorem step_of_rescheduled (s : State) (e : Event) (rest : List Event) :
    step { s with schedule := e :: rest } = handle e (s.withSchedule rest) := rfl

/-- Settles O46: a write by `hostRegWrite_any_host` and a read by `hostRegRead_any_host`. -/
theorem hostNumberDoesNotMatter : Obligations.HostNumberDoesNotMatter := by
  intro s t host k width offset v rest
  refine ⟨fun hs h => ?_, fun hs h => ?_⟩
  · rw [step_event hs] at h
    rw [step_of_rescheduled]
    obtain ⟨r, hreply, hsame⟩ := hostRegWrite_any_host h
    exact ⟨r, hreply, hsame k⟩
  · rw [step_event hs] at h
    rw [step_of_rescheduled]
    obtain ⟨r, hsame⟩ := hostRegRead_any_host width offset (s.withSchedule rest)
    obtain rfl : t = (s.withSchedule rest).answerHost host r := (Host.Outcome.next.inj h).symm.trans (hsame host)
    exact ⟨r, rfl, congrArg _ (hsame k)⟩

end Sys2Proof.Machine
end

section
/-! PROOFS. The block at rest and at a reset (70_reset_and_hazards.md R241, R246; 42_buffer_transform.md R181): an
engine with nothing to do, or with an access that is never answered, stays as it is, and a reset draws the whole
destination range of a running command. -/

namespace Sys2Proof.Machine

/-! ### Engine steps that change nothing -/

/-- The engine's next read or write is never answered (42_buffer_transform.md R181; log entry 8). -/
def State.Unanswered (s : State) : Prop :=
  s.plat.answer s.readAddr .read = .silent ∨
    (s.plat.answer s.readAddr .read = .ok ∧ s.plat.answer s.writeAddr .write = .silent)

/-- An engine that waits for an access is stuck. -/
theorem engineStep_unanswered {s : State} (h : s.Unanswered) : engineStep s = s := by
  obtain hr | ⟨hr, hw⟩ := h
  · simp [engineStep, hr]
  · simp [engineStep, hr, hw]

/-- With nothing scheduled, a state the engine leaves as it is stays for any number of steps. -/
theorem steps_of_engineStep_fixed (n : Nat) {s : State} (hs : s.schedule = []) (h : engineStep s = s) :
    steps n s = .next s := by
  rw [steps_eq_iterate_engineStep n hs, Function.iterate_fixed h]

/-- Settles O51: an idle engine and a stuck one each leave the state as it is. -/
theorem quiescentOrStuckBlockStays : Obligations.QuiescentOrStuckBlockStays := fun _ n hs =>
  ⟨fun hb => steps_of_engineStep_fixed n hs (engineStep_idle hb),
    fun _ hu => steps_of_engineStep_fixed n hs (engineStep_unanswered hu)⟩

/-! ### The range a reset draws -/

/-- The addresses a reset draws are the whole destination range (70_reset_and_hazards.md R241). -/
theorem mem_addressRange_of_inDest {s : State} {a : Word} (ha : s.inDest a = true) :
    a ∈ addressRange s.dst s.len.toNat := by
  obtain ⟨hlo, hhi⟩ := (s.inDest_iff a).mp ha
  have hi : (a - s.dst).toNat = a.toNat - s.dst.toNat := BitVec.toNat_sub_of_le (BitVec.le_def.mpr hlo)
  refine List.mem_map.mpr ⟨(a - s.dst).toNat, List.mem_range.mpr (by omega), ?_⟩
  rw [BitVec.ofNat_toNat, BitVec.setWidth_eq, BitVec.add_comm, BitVec.sub_add_cancel]

/-- After a reset of a running command a destination byte is one of the free values that reset used. -/
theorem resetBlock_read_dest {s : State} {a : Word} (hm : s.mem.wf = true) (hb : s.busy = true)
    (ha : s.inDest a = true) :
    ∃ n, s.draws ≤ n ∧ n < (resetBlock s).draws ∧ (resetBlock s).mem.read a.toNat = Config.freeByte n := by
  have hdraws : (resetBlock s).draws = s.draws + (addressRange s.dst s.len.toNat).length := by
    simp [resetBlock_draws, addressRange, hb]
  rw [hdraws, resetBlock_mem, if_pos hb]
  exact Memory.read_drawAll_mem hm s.draws _ (mem_addressRange_of_inDest ha)

/-- A reset leaves every byte outside the destination range alone. -/
theorem resetBlock_read_outside {s : State} {a : Word} (h : s.RunConsistent) (ha : s.inDest a = false) :
    (resetBlock s).mem.read a.toNat = s.mem.read a.toNat := by
  by_contra hne
  obtain ⟨-, hd⟩ := resetBlock_changes_dest h hne
  simp [ha] at hd

/-- A reset while no command runs leaves memory as it is. -/
theorem resetBlock_mem_of_idle {s : State} (hb : s.busy = false) : (resetBlock s).mem = s.mem := by
  simp [resetBlock_mem, hb]

/-- Settles O56: the step is `resetBlock`, whose draws are the destination range of the command it interrupts. -/
theorem resetDrawsTheInterruptedRange : Obligations.ResetDrawsTheInterruptedRange := by
  rintro s t ⟨-, hrun, -, hm⟩ hn h
  obtain ⟨rest, rfl⟩ := eq_resetBlock_of_resetsNext h hn
  exact ⟨fun hb _ => ⟨fun ha => resetBlock_read_dest (s := s.withSchedule rest) hm hb ha,
    fun ha => resetBlock_read_outside (s := s.withSchedule rest) hrun ha⟩, rfl,
    fun hb => resetBlock_mem_of_idle (s := s.withSchedule rest) hb⟩

end Sys2Proof.Machine
end

section
/-! PROOFS. A host's own memory while no command runs (the model's choices: log entries 10, 13 and 15): an uncached
access acts on memory at once, and a byte written is the one read back. -/

namespace Sys2Proof.Machine

/-- A word-addressed write of memory: the byte written reads back, and every other byte reads as before. -/
theorem Memory.read_write_word {m : Memory} (hm : m.wf = true) (a b : Word) (v : Byte) :
    (m.write a.toNat v).read b.toNat = if b = a then v else m.read b.toNat := by
  split
  case isTrue h => rw [h, Memory.read_write_same hm]
  case isFalse h => exact Memory.read_write_other m v fun he => h (BitVec.eq_of_toNat_eq he)

/-- While BUSY is 0 no host write opens a race. -/
theorem hostRace_idle {s : State} (a : Word) (hb : s.busy = false) : hostRace a s = s := by
  simp [hostRace, hb]

/-- While BUSY is 0 an uncached host write outside the window stores its byte at once (log entries 10 and 13). -/
theorem step_memWrite_idle {s : State} {host : Nat} {a : Word} {v : Byte} {rest : List Event}
    (hb : s.busy = false) (hw : s.plat.inWindow a.toNat = false)
    (hs : s.schedule = .memWrite host false a v :: rest) :
    step s = .next (((s.withSchedule rest).setByte a v).answerHost host .ok) := by
  have hstore : hostStore false a v (s.withSchedule rest) = (s.withSchedule rest).setByte a v := rfl
  rw [step_event hs, handle, hostMemWrite_outside (s := s.withSchedule rest) host false v hw, hstore,
    hostRace_idle (s := (s.withSchedule rest).setByte a v) a hb]

/-- While BUSY is 0 an uncached host read outside the window gives the byte in memory (log entries 10 and 13). -/
theorem step_memRead_idle {s : State} {host : Nat} {a : Word} {rest : List Event}
    (hb : s.busy = false) (hw : s.plat.inWindow a.toNat = false)
    (hs : s.schedule = .memRead host false a :: rest) :
    step s = .next ((s.withSchedule rest).answerHost host (.byte (s.mem.read a.toNat))) := by
  simp [step_event hs, handle, hostMemRead, hw, hb, State.stale]

/-- Settles O54: the write step stores the byte, the read step returns the byte `Memory.read_write_word` gives, and
neither touches the block. -/
theorem hostMemoryReadAfterWrite : Obligations.HostMemoryReadAfterWrite := by
  rintro s h k a b v rest ⟨-, -, -, hm⟩ hb ha hw hs
  refine ⟨_, _, step_memWrite_idle hb ha hs, step_memRead_idle hb hw rfl, ?_, ?_⟩
  · exact congrArg (fun r => some (k, Reply.byte r)) (Memory.read_write_word hm a b v)
  · simp [SameBlock]

end Sys2Proof.Machine
end
